-- ==== Sys2Proof/Word.lean ====
section
/-! DEFINITION. The word types of PPSB (spec/00_scope.md R7, R9): unsigned values of fixed width, bit 0 least
significant. Arithmetic of a rule is exact arithmetic of Nat, narrowed where the rule stores it (R10). -/

namespace Sys2Proof

/-- A byte of the register window (spec/20_memory.md R72). -/
abbrev Byte := BitVec 8

/-- The 16-bit stepper quantities (spec/00_scope.md R7). -/
abbrev Half := BitVec 16

/-- A register of the window, 32 bits (spec/00_scope.md R7). -/
abbrev Word := BitVec 32

end Sys2Proof
end

