-- ==== Sys2Proof/Syntax.lean ====
section
/-! DEFINITION. The 21 commands of PPSB, one constructor per row of spec/opcode_table.json (spec/30_encoding.md R92). -/

namespace Sys2Proof

/-- A command. The opcode chooses the constructor; `apply` is APPLY, CMD[8] (spec/30_encoding.md R91), which every row
of the opcode table leaves free. The solver opcodes read it (R94); "every other opcode" ignores it. Operands are not
part of the command word: they come from the snapshot (R93). -/
inductive Instr where
  /-- NOP, OPC 0x00: R111 of 40_arith.md. -/
  | nop (apply : Bool)
  /-- DIV8, OPC 0x01: R113 of 40_arith.md. -/
  | div8 (apply : Bool)
  /-- DIV16, OPC 0x02: R114 of 40_arith.md. -/
  | div16 (apply : Bool)
  /-- DIV24, OPC 0x03: R115 of 40_arith.md. -/
  | div24 (apply : Bool)
  /-- DIV32, OPC 0x04: R116 of 40_arith.md. -/
  | div32 (apply : Bool)
  /-- MUL8, OPC 0x08: R120 of 40_arith.md. -/
  | mul8 (apply : Bool)
  /-- MUL16, OPC 0x09: R121 of 40_arith.md. -/
  | mul16 (apply : Bool)
  /-- PWM_SOLVE, OPC 0x10: R138 of 41_pwm11.md. -/
  | pwmSolve (apply : Bool)
  /-- PWM_SOLVE_DUTY, OPC 0x11: R139 of 41_pwm11.md. -/
  | pwmSolveDuty (apply : Bool)
  /-- TM8_SOLVE, OPC 0x18: R156 of 42_tm8.md. -/
  | tm8Solve (apply : Bool)
  /-- TM8_DUTY, OPC 0x19: R157 of 42_tm8.md. -/
  | tm8Duty (apply : Bool)
  /-- STP_INIT, OPC 0x20: R175 of 43_stepper.md. -/
  | stpInit (apply : Bool)
  /-- STP_ENABLE, OPC 0x21: R176 of 43_stepper.md. -/
  | stpEnable (apply : Bool)
  /-- STP_SET_DIR, OPC 0x22: R177 of 43_stepper.md. -/
  | stpSetDir (apply : Bool)
  /-- STP_SET_VEL, OPC 0x23: R178 of 43_stepper.md. -/
  | stpSetVel (apply : Bool)
  /-- STP_RUN, OPC 0x24: R180 of 43_stepper.md. -/
  | stpRun (apply : Bool)
  /-- STP_MOVE, OPC 0x25: R181 of 43_stepper.md. -/
  | stpMove (apply : Bool)
  /-- STP_STOP, OPC 0x26: R183 of 43_stepper.md. -/
  | stpStop (apply : Bool)
  /-- STP_DISABLE, OPC 0x27: R184 of 43_stepper.md. -/
  | stpDisable (apply : Bool)
  /-- STP_RELEASE, OPC 0x28: R185 of 43_stepper.md. -/
  | stpRelease (apply : Bool)
  /-- STP_EVENT, OPC 0x29: R186 of 43_stepper.md. -/
  | stpEvent (apply : Bool)
  deriving DecidableEq, Repr

end Sys2Proof
end

