-- ==== Sys2Proof/WellFormed.lean ====
section
/-! DEFINITION. Which command words are well formed (spec/30_encoding.md R91, R92, R95, R96). Every term of `Instr` is a
command: an opcode of the table and one APPLY bit, and its type admits nothing else. What can be ill formed is the
32-bit word a host writes to CMD, and the two checks of R95 stand here. -/

namespace Sys2Proof

/-- The opcodes of the table of spec/30_encoding.md R92. -/
def assignedOpcodes : List Nat :=
  [0x00, 0x01, 0x02, 0x03, 0x04, 0x08, 0x09, 0x10, 0x11, 0x18, 0x19,
   0x20, 0x21, 0x22, 0x23, 0x24, 0x25, 0x26, 0x27, 0x28, 0x29]

/-- R91: "RSV must be 0": bits 31:9 of the word are zero. -/
def reservedClear (w : Word) : Bool := w.toNat / 512 == 0

/-- R96: "Every opcode outside the table of rule R92 is illegal": bits 7:0 name an opcode of the table. -/
def opcodeAssigned (w : Word) : Bool := assignedOpcodes.contains (w.toNat % 256)

/-- A legal command word passes both checks of R95. -/
def wordWellFormed (w : Word) : Bool := reservedClear w && opcodeAssigned w

end Sys2Proof
end

