-- ==== Sys2Proof/Decode.lean ====
section
/-! DEFINITION. The decoder of spec/30_encoding.md R95, total on every 32-bit word, and after it the encoder of R91 and R92. -/

namespace Sys2Proof

/-- Why a command word is rejected (spec/30_encoding.md R95). Either one completes the command with ILLEGAL. -/
inductive Reject where
  /-- CMD[31:9] is not zero: "ILLEGAL: reserved bits set". -/
  | reservedBits
  /-- OPC is not in the table of R92: "ILLEGAL: unassigned opcode". -/
  | unassignedOpcode
  deriving DecidableEq, Repr

/-- OPC, CMD[7:0] (R91). -/
def opcodeOf (w : Word) : BitVec 8 := w.extractLsb' 0 8

/-- APPLY, CMD[8] (R91). -/
def applyOf (w : Word) : Bool := w.getLsbD 8

/-- RSV, CMD[31:9] (R91). -/
def reservedOf (w : Word) : BitVec 23 := w.extractLsb' 9 23

/-- The opcode map of R92: the command of opcode `opc`, given its APPLY bit. -/
def commandOf (opc : BitVec 8) (apply : Bool) : Option Instr :=
  match opc.toNat with
  | 0x00 => some (.nop apply)
  | 0x01 => some (.div8 apply)
  | 0x02 => some (.div16 apply)
  | 0x03 => some (.div24 apply)
  | 0x04 => some (.div32 apply)
  | 0x08 => some (.mul8 apply)
  | 0x09 => some (.mul16 apply)
  | 0x10 => some (.pwmSolve apply)
  | 0x11 => some (.pwmSolveDuty apply)
  | 0x18 => some (.tm8Solve apply)
  | 0x19 => some (.tm8Duty apply)
  | 0x20 => some (.stpInit apply)
  | 0x21 => some (.stpEnable apply)
  | 0x22 => some (.stpSetDir apply)
  | 0x23 => some (.stpSetVel apply)
  | 0x24 => some (.stpRun apply)
  | 0x25 => some (.stpMove apply)
  | 0x26 => some (.stpStop apply)
  | 0x27 => some (.stpDisable apply)
  | 0x28 => some (.stpRelease apply)
  | 0x29 => some (.stpEvent apply)
  | _ => none

/-- Decoding at completion, R95: the reserved bits are checked before the opcode. -/
def decode (w : Word) : Except Reject Instr :=
  if reservedOf w ≠ 0 then .error .reservedBits
  else match commandOf (opcodeOf w) (applyOf w) with
    | some i => .ok i
    | none => .error .unassignedOpcode

/-- The opcode and the APPLY bit of a command (R92). -/
def opcodeApply : Instr → BitVec 8 × Bool
  | .nop a => (0x00, a)
  | .div8 a => (0x01, a)
  | .div16 a => (0x02, a)
  | .div24 a => (0x03, a)
  | .div32 a => (0x04, a)
  | .mul8 a => (0x08, a)
  | .mul16 a => (0x09, a)
  | .pwmSolve a => (0x10, a)
  | .pwmSolveDuty a => (0x11, a)
  | .tm8Solve a => (0x18, a)
  | .tm8Duty a => (0x19, a)
  | .stpInit a => (0x20, a)
  | .stpEnable a => (0x21, a)
  | .stpSetDir a => (0x22, a)
  | .stpSetVel a => (0x23, a)
  | .stpRun a => (0x24, a)
  | .stpMove a => (0x25, a)
  | .stpStop a => (0x26, a)
  | .stpDisable a => (0x27, a)
  | .stpRelease a => (0x28, a)
  | .stpEvent a => (0x29, a)

/-- The command word of a command, R91: RSV zero, then APPLY, then OPC. -/
def encode (i : Instr) : Word :=
  (0#23 ++ BitVec.ofBool (opcodeApply i).2 ++ (opcodeApply i).1 : BitVec 32)

/-- The command that the decoder reads from the low `nbits` bits of `w`, as spec/opcode_table.json numbers them. One
command is one 32-bit word (R91), so no word follows it and bits above `nbits` are zero. -/
def decodeTableWord (nbits w : Nat) : Option Instr :=
  match decode (BitVec.ofNat 32 (w % 2 ^ nbits)) with
  | .ok i => some i
  | .error _ => none

end Sys2Proof
end

