-- ==== Sys2Proof/Config.lean ====
section
/-! DEFINITION. The parameters the spec leaves OPEN (spec/00_scope.md R7, spec/93_implementation_defined.md P1 to P4).
They are opaque: nothing can be proved of their values. `CMD_LATENCY` (P2) and the event schedule (P4) are no constants
but the order of the entries of `State.inputs`. -/

namespace Sys2Proof.Config

/-- BLOCK_BASE divided by 4. Opaque, so that every multiple of 4 is possible (spec/20_memory.md R70, log entry 4). -/
opaque blockBaseWords : Nat

/-- BLOCK_BASE, "a multiple of 4 so that every register is naturally aligned" (spec/20_memory.md R70). -/
def blockBase : Nat := 4 * blockBaseWords

/-- DutyParityFn(d, cr), the open parity function of the PWM duty, used only when CTRL.DPAR_EN = 1
(spec/41_pwm11.md R137, 93_implementation_defined.md P3, log entry 3). Its result is 11 bits. FREE VALUE. -/
opaque dutyParityFn (d cr : Nat) : BitVec 11

end Sys2Proof.Config
end

