-- ==== Sys2Proof/Machine/State.lean ====
section
/-! DEFINITION. The state of PPSB as plain data (spec/10_state.md), its stops, and the state after reset
(spec/70_reset_and_hazards.md R240). Reserved bits are RAZ/WI (R24), so no field holds them. -/

namespace Sys2Proof.Machine

/-- STATUS.ERRCODE (spec/60_exceptions.md R210). Codes 7 to 15 are "never produced": no constructor. -/
inductive ErrCode where
  /-- 0: no error since ERR was last cleared or since reset. -/
  | none
  /-- 1: reserved bits set or an opcode not in the table. -/
  | illegal
  /-- 2: a divisor field is 0. -/
  | divz
  /-- 3: a command issued while BUSY = 1. -/
  | busy
  /-- 4: the command is not allowed in the current stepper STATE. -/
  | state
  /-- 5: STP_SPR = 0 in STP_MOVE. -/
  | config
  /-- 6: a misaligned bus access. -/
  | bus
  deriving DecidableEq, Repr

/-- STP_STATE.STATE (spec/10_state.md R44). Values 6 and 7 "never occur": no constructor. -/
inductive StpMode where
  | uninit
  | idle
  | enabled
  | movingCont
  | movingDist
  | stopped
  deriving DecidableEq, Repr

/-- STP_STATE.SRC, a pulse source: the 11-bit PWM channel (0) or the 8-bit timer (1) (spec/10_state.md R44). -/
inductive Channel where
  | pwm
  | tm8
  deriving DecidableEq, Repr

/-- TM8_PORT.MODE (spec/10_state.md R40): 0 Period mode, 1 PWM sub-mode. -/
inductive Tm8Mode where
  | period
  | pwm
  deriving DecidableEq, Repr

/-- The fields of CTRL (spec/10_state.md R28). -/
structure Ctrl where
  ieDone : Bool
  ieErr : Bool
  ieMove : Bool
  pwmCorr : BitVec 2
  tm8Corr : BitVec 2
  pwmOdd : Bool
  dparEn : Bool
  tm8Depth : Bool
  deriving DecidableEq, Repr

/-- The fields of SOLVE (spec/10_state.md R34), and of PWM_PORT, whose BOUND is COUNTER (R39). -/
structure SolveReg where
  psc : BitVec 2
  scalar : BitVec 5
  bound : BitVec 11
  deriving DecidableEq, Repr

/-- The fields of TM8_PORT (spec/10_state.md R40). -/
structure Tm8Port where
  psc : BitVec 2
  scalar : BitVec 5
  bound : BitVec 8
  mode : Tm8Mode
  depth : Bool
  deriving DecidableEq, Repr

/-- The fields of STP_STATE (spec/10_state.md R44); `mode` is STATE. -/
structure StpState where
  mode : StpMode
  src : Channel
  dir : Bool
  distMode : Bool
  isMoving : Bool
  armed : Bool
  periodState : Bool
  pinEn : Bool
  pinOe : Bool
  deriving DecidableEq, Repr

/-- `snap`, the copy of the operand and configuration registers taken at issue (spec/10_state.md R46). -/
structure Snapshot where
  ctrl : Ctrl
  opa : Word
  opb : Word
  clkPwm : Word
  clkTm8 : Word
  stpUpr : Half
  stpSpr : Half
  deriving DecidableEq, Repr

/-- The width of a host access, n in 1, 2, 4 bytes (spec/20_memory.md R71). -/
inductive AccessSize where
  | byte
  | half
  | word
  deriving DecidableEq, Repr

/-- One step of one agent of spec/10_state.md R20. A host access carries `off`, its bus address minus BLOCK_BASE
(spec/20_memory.md R71), which is negative below the window. -/
inductive Input where
  /-- MemRead(BLOCK_BASE + off, n). -/
  | hostRead (off : Int) (n : AccessSize)
  /-- MemWrite(BLOCK_BASE + off, n, v); only the low n bytes of v are written. -/
  | hostWrite (off : Int) (n : AccessSize) (v : Word)
  /-- The command engine's step (spec/60_exceptions.md R212). -/
  | engine
  /-- A pulse on evt_pwm. -/
  | evtPwm
  /-- A pulse on evt_tm8. -/
  | evtTm8
  /-- `rst` becomes asserted (spec/70_reset_and_hazards.md R240). -/
  | rstAssert
  /-- `rst` is released. -/
  | rstRelease
  deriving DecidableEq, Repr

/-- The state of PPSB: every register of spec/10_state.md R24, the hidden state of R46, the reset input, and the model's
own `readData` and `inputs` (log entries 1 and 6). STATUS.BUSY is `engBusy` (R46); STATUS.IRQ is computed (R48). -/
structure State where
  /-- STATUS.DONE (R25). -/
  done : Bool
  /-- STATUS.ERR (R25). -/
  err : Bool
  /-- STATUS.MOVE_DONE (R25). -/
  moveDone : Bool
  /-- STATUS.FALLBACK (R27). -/
  fallback : Bool
  /-- STATUS.ERRCODE (R25). -/
  errCode : ErrCode
  /-- CTRL (R28). -/
  ctrl : Ctrl
  /-- CMD, all 32 bits stored (R31). -/
  cmd : Word
  /-- OPA (R32). -/
  opa : Word
  /-- OPB (R32). -/
  opb : Word
  /-- RES0 (R33). -/
  res0 : Word
  /-- RES1 (R33). -/
  res1 : Word
  /-- SOLVE (R34). -/
  solve : SolveReg
  /-- DUTY bits 10:0 (R35). -/
  duty : BitVec 11
  /-- RATIO (R36). -/
  ratio : Word
  /-- RESID (R36). -/
  resid : Word
  /-- CLK_PWM (R37). -/
  clkPwm : Word
  /-- CLK_TM8 (R37). -/
  clkTm8 : Word
  /-- RUN.PWM_RUN (R38). -/
  pwmRun : Bool
  /-- RUN.TM8_RUN (R38). -/
  tm8Run : Bool
  /-- PWM_PORT (R39). -/
  pwmPort : SolveReg
  /-- PWM_PDUTY bits 10:0 (R39). -/
  pwmPduty : BitVec 11
  /-- TM8_PORT (R40). -/
  tm8Port : Tm8Port
  /-- STP_UPR bits 15:0 (R41). -/
  stpUpr : Half
  /-- STP_SPR bits 15:0 (R41). -/
  stpSpr : Half
  /-- STP_TFREQ (R42). -/
  stpTfreq : Word
  /-- STP_REVS bits 15:0 (R43). -/
  stpRevs : Half
  /-- STP_CUR bits 15:0 (R43). -/
  stpCur : Half
  /-- STP_FINAL bits 15:0 (R43). -/
  stpFinal : Half
  /-- STP_MSPR bits 15:0 (R43). -/
  stpMspr : Half
  /-- STP_STATE (R44). -/
  stp : StpState
  /-- `eng_busy`, equal to STATUS.BUSY (R46). -/
  engBusy : Bool
  /-- `eng_cmd` (R46). -/
  engCmd : Word
  /-- `snap` (R46). -/
  snap : Snapshot
  /-- The level of the reset input: true while `rst` is asserted (R49, R240). -/
  rst : Bool
  /-- The model's own: the value PPSB returned to the last read of its window (log entry 6). -/
  readData : Word
  /-- The model's own: the agents' steps still to come, in order (log entry 1). -/
  inputs : List Input
  deriving DecidableEq, Repr

/-- The reasons a step stops with a fault: none. PPSB "takes no trap" and "an error does not stop the block"
(spec/60_exceptions.md R218): every error is a next state. No constructor, so nothing raises it; safe (log entry 9). -/
inductive Fault : Type
  deriving DecidableEq, Repr

/-- The reasons an instruction has no meaning in the model. -/
inductive Refusal where
  /-- Raised by an arm of `exec` whose instruction has no meaning yet; no arm raises it. Safe. -/
  | notModelled (mnemonic : String)
  deriving DecidableEq, Repr

/-- CTRL at reset, 0x0000_0190 (spec/10_state.md R28): PWM_CORR = DOUBLE, TM8_CORR = HALVE, PWM_ODD = 1. -/
def Ctrl.atReset : Ctrl :=
  { ieDone := false, ieErr := false, ieMove := false, pwmCorr := 1, tm8Corr := 2,
    pwmOdd := true, dparEn := false, tm8Depth := false }

/-- `snap` at reset. The spec: "snap becomes undefined" (R240). DESIGN CHOICE: zero; unsafe (log entry 5). -/
def Snapshot.atReset : Snapshot :=
  { ctrl := { ieDone := false, ieErr := false, ieMove := false, pwmCorr := 0, tm8Corr := 0,
              pwmOdd := false, dparEn := false, tm8Depth := false },
    opa := 0, opb := 0, clkPwm := 0, clkTm8 := 0, stpUpr := 0, stpSpr := 0 }

/-- The machine right after reset, `rst` released (spec/70_reset_and_hazards.md R240, spec/10_state.md R24). -/
def State.reset : State :=
  { done := false, err := false, moveDone := false, fallback := false, errCode := .none,
    ctrl := Ctrl.atReset, cmd := 0, opa := 0, opb := 0, res0 := 0, res1 := 0,
    solve := { psc := 0, scalar := 0, bound := 0 }, duty := 0, ratio := 0, resid := 0,
    clkPwm := 4000000, clkTm8 := 4000000, pwmRun := false, tm8Run := false,
    pwmPort := { psc := 0, scalar := 0, bound := 0 }, pwmPduty := 0,
    tm8Port := { psc := 0, scalar := 0, bound := 0, mode := .period, depth := false },
    stpUpr := 0, stpSpr := 0, stpTfreq := 0, stpRevs := 0, stpCur := 0, stpFinal := 0, stpMspr := 0,
    stp := { mode := .uninit, src := .pwm, dir := false, distMode := false, isMoving := false,
             armed := false, periodState := false, pinEn := false, pinOe := false },
    engBusy := false, engCmd := 0, snap := Snapshot.atReset, rst := false, readData := 0, inputs := [] }

end Sys2Proof.Machine
end

