-- ==== Sys2Proof/Machine/Flags.lean ====
section
/-! DEFINITION. STATUS: the flags, the error code and the interrupt output (spec/10_state.md R25 to R27, R48;
spec/60_exceptions.md R210, R213 to R215). Every rule that writes a STATUS bit does so through these. -/

namespace Sys2Proof.Machine

/-- The code of an error (spec/60_exceptions.md R210). -/
def ErrCode.bits : ErrCode → BitVec 4
  | .none => 0
  | .illegal => 1
  | .divz => 2
  | .busy => 3
  | .state => 4
  | .config => 5
  | .bus => 6

/-- "Each error also sets STATUS.ERR = 1", and ERRCODE holds the most recent error (R210, R211). -/
def setError (code : ErrCode) (s : State) : State :=
  { s with err := true, errCode := code }

/-- STATUS.MOVE_DONE <- 1 (spec/43_stepper.md R181, R197). -/
def setMoveDone (s : State) : State :=
  { s with moveDone := true }

/-- The end of a command, in error or not: eng_busy <- 0, STATUS.BUSY <- 0, STATUS.DONE <- 1 (R213, R214). -/
def setCompleted (s : State) : State :=
  { s with engBusy := false, done := true }

/-- The level output `irq`, read live (spec/10_state.md R48). -/
def irq (s : State) : Bool :=
  (s.done && s.ctrl.ieDone) || (s.err && s.ctrl.ieErr) || (s.moveDone && s.ctrl.ieMove)

/-- A field of a register word whose lowest bit is bit `lsb`; every other bit is 0 (spec/00_scope.md R9). -/
def fieldAt {n : Nat} (lsb : Nat) (v : BitVec n) : Word := v.zeroExtend 32 <<< lsb

/-- A one-bit field of a register word at bit `k` (spec/00_scope.md R9). -/
def flagAt (k : Nat) (b : Bool) : Word := fieldAt k (BitVec.ofBool b)

/-- STATUS as the host reads it, reserved bits 0 (spec/10_state.md R25). -/
def statusWord (s : State) : Word :=
  flagAt 0 s.engBusy ||| flagAt 1 s.done ||| flagAt 2 s.err ||| flagAt 3 s.moveDone ||| flagAt 4 s.fallback |||
    flagAt 5 (irq s) ||| fieldAt 8 s.errCode.bits

/-- A host write to STATUS that covers byte 0 (spec/10_state.md R26). Bits 1, 2 and 3 written as 1 clear DONE, ERR with
ERRCODE, and MOVE_DONE; everything else ignores the write. -/
def clearStatus (v : Word) (s : State) : State :=
  { s with
    done := s.done && !v.getLsbD 1
    err := s.err && !v.getLsbD 2
    errCode := if v.getLsbD 2 then .none else s.errCode
    moveDone := s.moveDone && !v.getLsbD 3 }

end Sys2Proof.Machine
end

