-- ==== Sys2Proof/Machine/Ops.lean ====
section
/-! DEFINITION. The shared operations: how a command ends (spec/60_exceptions.md R213, R214), the procedures of the
arithmetic unit (spec/40_arith.md R112, R118), and the ratio correction (spec/10_state.md R29). -/

namespace Sys2Proof.Machine

/-- `complete()`, R213: the command ends successfully; ERR and ERRCODE are unchanged. -/
def complete (s : State) : State :=
  setCompleted s

/-- `raise Error(code)`, R214: the command ends in an error, and nothing else of the state changes. This is the whole of
taking an exception on PPSB: "PPSB takes no trap and saves no state on an error" (R218). The return from it is the
host's write to STATUS (R219, `clearStatus`). -/
def raiseError (code : ErrCode) (s : State) : State :=
  setCompleted (setError code s)

/-- The copy of the operand and configuration registers that an issue takes (spec/10_state.md R46). -/
def takeSnapshot (s : State) : Snapshot :=
  { ctrl := s.ctrl, opa := s.opa, opb := s.opb, clkPwm := s.clkPwm, clkTm8 := s.clkTm8,
    stpUpr := s.stpUpr, stpSpr := s.stpSpr }

/-- R90 of spec/30_encoding.md, after the written bytes are stored in CMD: an idle engine takes the command with a
snapshot; a busy one rejects it with BUSY and goes on. -/
def issue (s : State) : State :=
  if s.engBusy then setError .busy s
  else { s with engBusy := true, engCmd := s.cmd, snap := takeSnapshot s }

/-- The loop of R112: `i` iterations are left, for bits i-1 down to 0 of the dividend `n`. -/
def divLoop (n d : Nat) : Nat → Nat → Nat → Nat × Nat
  | 0, q, r => (q, r)
  | i + 1, q, r =>
    if (r <<< 1 ||| (n >>> i) % 2) ≥ d then
      divLoop n d i (q ||| 1 <<< i) ((r <<< 1 ||| (n >>> i) % 2) - d)
    else divLoop n d i q (r <<< 1 ||| (n >>> i) % 2)

/-- DivN(N, n, d), R112: restoring binary long division, most significant bit first, with the fast path for n < d.
Requires d ≠ 0. The result is (quotient, remainder). -/
def divN (width n d : Nat) : Nat × Nat :=
  if n < d then (0, n) else divLoop n d width 0 0

/-- Byte i of an operand. -/
def byteOf (a i : Nat) : Nat := (a >>> (8 * i)) % 256

/-- MulHW(N, a, b), R118: partial products of bytes, accumulated. -/
def mulHW (width a b : Nat) : Nat :=
  (List.range (width / 8)).foldl (fun p i =>
    (List.range (width / 8)).foldl (fun p j => p + (byteOf a i * byteOf b j) <<< (8 * (i + j))) p) 0

/-- The loop of MulSW: `k` iterations are left; the next one is for bit `i` of `a`. -/
def mulSWLoop (width a b : Nat) : Nat → Nat → Nat → Nat
  | 0, _, acc => acc
  | k + 1, i, acc =>
    mulSWLoop width a b k (i + 1) ((if a.testBit i then acc + b <<< width else acc) >>> 1)

/-- MulSW(N, a, b), R118: shift and add, least significant bit first; the result is acc[2N-1:0]. -/
def mulSW (width a b : Nat) : Nat :=
  mulSWLoop width a b width 0 0 % 2 ^ (2 * width)

/-- MulN(N, a, b), R118. "A PPSB implementation may use either" path; the model takes the hardware one (log entry 10). -/
def mulN (width a b : Nat) : Nat := mulHW width a b

/-- `corr(r, m)`, spec/10_state.md R29: 0 NONE, 1 DOUBLE (wrapping at 32 bits), 2 HALVE, 3 HALVE_INC. -/
def corr (r : Word) (m : BitVec 2) : Word :=
  match m.toNat with
  | 0 => r
  | 1 => r * 2
  | 2 => r >>> 1
  | _ => (r >>> 1) + 1

/-- Steps 1 of both solvers (spec/41_pwm11.md R131, spec/42_tm8.md R151): a zero target is clk >> 4, and 1 where that is
zero too. -/
def defaultTarget (t clk : Word) : Word :=
  if t = 0 then (if clk >>> 4 = 0 then 1 else clk >>> 4) else t

/-- The clock ratio after correction (spec/41_pwm11.md R132, spec/42_tm8.md R151). The target is not zero. DESIGN CHOICE,
unsafe: a target above the clock with HALVE_INC has the ratio corr(0, 3) = 1, as the pseudocode of R132 and R29 have it,
and the 11-bit solver accepts it at scalar 1; the prose of R132 and R138 says r = 0 and the fallback (log entry 23). -/
def clockRatio (t clk : Word) (cm : BitVec 2) : Word :=
  corr (clk / defaultTarget t clk) cm

/-- The boost loop of spec/41_pwm11.md R133 and spec/42_tm8.md R152: while the ratio is above the threshold and boosts
are left, divide the ratio by 4 and count one boost. -/
def boostLoop (threshold : Nat) : Nat → Word → Nat → Word × Nat
  | 0, r, b => (r, b)
  | left + 1, r, b =>
    if r.toNat > threshold then boostLoop threshold left (r >>> 2) (b + 1) else (r, b)

/-- At most 3 boosts (R133, R152). The result is (ratio, number of boosts b). -/
def boost (threshold : Nat) (r : Word) : Word × Nat :=
  boostLoop threshold 3 r 0

/-- n / 100 rounded to nearest, a remainder of at least 50 up (spec/41_pwm11.md R137, spec/42_tm8.md R157). -/
def roundPercent (n : Nat) : Nat :=
  if (divN 32 n 100).2 ≥ 50 then (divN 32 n 100).1 + 1 else (divN 32 n 100).1

/-- RUN[bit of the channel] <- v (spec/43_stepper.md R171). -/
def setRun (ch : Channel) (v : Bool) (s : State) : State :=
  match ch with
  | .pwm => { s with pwmRun := v }
  | .tm8 => { s with tm8Run := v }

end Sys2Proof.Machine
end

