-- ==== Sys2Proof/Machine/Operands.lean ====
section
/-! DEFINITION. The operands of the commands: fixed fields of the snapshot (spec/30_encoding.md R93). "Bits outside the
named field are ignored". -/

namespace Sys2Proof.Machine

/-- snap[OPA][N-1:0]. -/
def opaField (width : Nat) (s : State) : Nat := s.snap.opa.toNat % 2 ^ width

/-- snap[OPB][N-1:0]. -/
def opbField (width : Nat) (s : State) : Nat := s.snap.opb.toNat % 2 ^ width

/-- The one-bit operand OPA[0] of STP_INIT and STP_SET_DIR. -/
def opaBit (s : State) : Bool := s.snap.opa.getLsbD 0

/-- The source that STP_INIT selects: 0 the 11-bit PWM channel, 1 the 8-bit timer (spec/10_state.md R44). -/
def opaSource (s : State) : Channel := if opaBit s then .tm8 else .pwm

/-- target_freq_hz = OPA[31:0]. -/
def targetFreq (s : State) : Word := s.snap.opa

/-- duty_percent = OPB[7:0]. -/
def dutyPercent (s : State) : Nat := opbField 8 s

/-- units_per_min of STP_SET_VEL, OPA[15:0]. -/
def unitsPerMin (s : State) : Nat := opaField 16 s

/-- distance of STP_MOVE, OPA[15:0]. -/
def moveDistance (s : State) : Nat := opaField 16 s

/-- snap[STP_UPR]. -/
def unitsPerRev (s : State) : Nat := s.snap.stpUpr.toNat

/-- snap[STP_SPR]. -/
def stepsPerRev (s : State) : Nat := s.snap.stpSpr.toNat

end Sys2Proof.Machine
end

