-- ==== Sys2Proof/Machine/Arith.lean ====
section
/-! DEFINITION. The arithmetic unit: NOP, DIV8 to DIV32, MUL8, MUL16 (spec/40_arith.md). -/

namespace Sys2Proof.Machine

/-- R111. -/
def execNop (_apply : Bool) (s : State) : Host.Outcome State Fault Refusal :=
  .next (complete s)

/-- The pseudocode that R113 to R116 share, at width N: DIVZ on a zero divisor (R117), else RES0 and RES1. -/
def divide (width : Nat) (s : State) : State :=
  if opbField width s = 0 then raiseError .divz s
  else complete { s with
    res0 := BitVec.ofNat 32 (divN width (opaField width s) (opbField width s)).1
    res1 := BitVec.ofNat 32 (divN width (opaField width s) (opbField width s)).2 }

/-- R113. -/
def execDiv8 (_apply : Bool) (s : State) : Host.Outcome State Fault Refusal := .next (divide 8 s)

/-- R114. -/
def execDiv16 (_apply : Bool) (s : State) : Host.Outcome State Fault Refusal := .next (divide 16 s)

/-- R115. -/
def execDiv24 (_apply : Bool) (s : State) : Host.Outcome State Fault Refusal := .next (divide 24 s)

/-- R116. -/
def execDiv32 (_apply : Bool) (s : State) : Host.Outcome State Fault Refusal := .next (divide 32 s)

/-- The pseudocode that R120 and R121 share, at width N. -/
def multiply (width : Nat) (s : State) : State :=
  complete { s with
    res0 := BitVec.ofNat 32 (mulN width (opaField width s) (opbField width s))
    res1 := 0 }

/-- R120. -/
def execMul8 (_apply : Bool) (s : State) : Host.Outcome State Fault Refusal := .next (multiply 8 s)

/-- R121. -/
def execMul16 (_apply : Bool) (s : State) : Host.Outcome State Fault Refusal := .next (multiply 16 s)

end Sys2Proof.Machine
end

