-- ==== Sys2Proof/Machine/Pwm11.lean ====
section
/-! DEFINITION. The 11-bit PWM parameter solver: PWM_SOLVE, PWM_SOLVE_DUTY (spec/41_pwm11.md). -/

namespace Sys2Proof.Machine

/-- The result of PwmSolve (R130). The candidate cq is `reg.bound + 1`. -/
structure PwmSolution where
  /-- Prescaler code b, scalar register sr and counter register cr. -/
  reg : SolveReg
  /-- The residual res. -/
  resid : Word
  /-- The fallback flag fb. -/
  fallback : Bool
  /-- The ratio r. -/
  ratio : Word
  deriving DecidableEq, Repr

/-- A candidate of the scalar search (R134): the scalar bs, its quotient bq and its remainder. -/
structure Candidate where
  scalar : Nat
  quotient : Nat
  remainder : Nat
  deriving DecidableEq, Repr

/-- `best` of R134: the remainder of the best candidate so far, 32 before there is one. -/
def bestSoFar : Option Candidate → Nat
  | none => 32
  | some c => c.remainder

/-- The acceptance test of R134 on a quotient q: odd where `odd` asks for it, and 1 ≤ q < 2048. -/
def quotientFits (odd : Bool) (q : Nat) : Bool :=
  (!odd || q % 2 == 1) && decide (1 ≤ q) && decide (q < 2048)

/-- One iteration of R134, for scalar candidate s: a strictly smaller remainder replaces the best. -/
def tryScalar (odd : Bool) (r : Nat) (best : Option Candidate) (s : Nat) : Option Candidate :=
  if r % s < bestSoFar best ∧ quotientFits odd (r / s) then some ⟨s, r / s, r % s⟩ else best

/-- The scalar search of R134, s in 1..32 ascending. -/
def scalarSearch (odd : Bool) (r : Nat) : Option Candidate :=
  (List.range' 1 32).foldl (tryScalar odd r) none

/-- The boost threshold of R133. -/
def pwmThreshold : Nat := 65504

/-- bs of R134, or of the fallback R135. -/
def chosenScalar : Option Candidate → Nat
  | some c => c.scalar
  | none => 32

/-- bq of R134, or of the fallback R135. -/
def chosenQuotient : Option Candidate → Nat
  | some c => c.quotient
  | none => 2047

/-- res of R135: the remainder of the accepted candidate, all ones for the fallback. -/
def pwmResidual : Option Candidate → Word
  | some c => BitVec.ofNat 32 c.remainder
  | none => 0xFFFFFFFF

/-- The end of PwmSolve: fallback (R135) and register encoding (R136), from the ratio and boosts of R133 and the
candidate that the search found. -/
def encodePwm (boosted : Word × Nat) (found : Option Candidate) : PwmSolution :=
  { reg := { psc := BitVec.ofNat 2 boosted.2
             scalar := BitVec.ofNat 5 (chosenScalar found - 1)
             bound := BitVec.ofNat 11 (chosenQuotient found - 1) }
    resid := pwmResidual found
    fallback := found.isNone
    ratio := boosted.1 }

/-- The ratio and boosts of PwmSolve: default target and ratio (R131, R132), boosts (R133). -/
def pwmBoosted (t clk : Word) (cm : BitVec 2) : Word × Nat :=
  boost pwmThreshold (clockRatio t clk cm)

/-- PwmSolve(t, clk, cm, odd), R130. -/
def pwmSolve (t clk : Word) (cm : BitVec 2) (odd : Bool) : PwmSolution :=
  encodePwm (pwmBoosted t clk cm) (scalarSearch odd (pwmBoosted t clk cm).1.toNat)

/-- The rounded duty of R137 before the parity function and the clamp. -/
def roundedDuty (p8 : Nat) (cr : BitVec 11) : Nat :=
  roundPercent (mulN 16 (min p8 100) (cr.toNat + 1))

/-- PwmDuty(p8, cr, dpar), R137. DutyParityFn is the open parameter of Config (log entry 3). -/
def pwmDuty (p8 : Nat) (cr : BitVec 11) (dpar : Bool) : BitVec 11 :=
  BitVec.ofNat 11 (min
    (if dpar then (Config.dutyParityFn (roundedDuty p8 cr) cr.toNat).toNat else roundedDuty p8 cr) cr.toNat)

/-- The writes to SOLVE, RATIO, RESID and FALLBACK that R138, R139 and R178 share. -/
def writePwmSolution (sol : PwmSolution) (s : State) : State :=
  { s with solve := sol.reg, ratio := sol.ratio, resid := sol.resid, fallback := sol.fallback }

/-- The solution that PWM_SOLVE and PWM_SOLVE_DUTY ask for: all inputs from the snapshot (R138). -/
def requestedPwm (s : State) : PwmSolution :=
  pwmSolve (targetFreq s) s.snap.clkPwm s.snap.ctrl.pwmCorr s.snap.ctrl.pwmOdd

/-- x[PWM_PORT] <- x[SOLVE] (spec/30_encoding.md R94). -/
def applyPwmPort (s : State) : State := { s with pwmPort := s.solve }

/-- x[PWM_PDUTY] <- x[DUTY] (spec/30_encoding.md R94). -/
def applyPwmDuty (s : State) : State := { s with pwmPduty := s.duty }

/-- PWM_SOLVE, R138. -/
def execPwmSolve (apply : Bool) (s : State) : Host.Outcome State Fault Refusal :=
  let s1 := writePwmSolution (requestedPwm s) s
  .next (complete (if apply then applyPwmPort s1 else s1))

/-- PWM_SOLVE_DUTY, R139. -/
def execPwmSolveDuty (apply : Bool) (s : State) : Host.Outcome State Fault Refusal :=
  let sol := requestedPwm s
  let s1 := { writePwmSolution sol s with
    duty := pwmDuty (dutyPercent s) sol.reg.bound s.snap.ctrl.dparEn }
  .next (complete (if apply then applyPwmDuty (applyPwmPort s1) else s1))

end Sys2Proof.Machine
end

