-- ==== Sys2Proof/Machine/Tm8.lean ====
section
/-! DEFINITION. The 8-bit timer parameter solver: TM8_SOLVE, TM8_DUTY (spec/42_tm8.md). -/

namespace Sys2Proof.Machine

/-- The result of Tm8Solve (R150). -/
structure Tm8Solution where
  psc : BitVec 2
  scalar : BitVec 5
  bound : BitVec 8
  resid : Word
  fallback : Bool
  ratio : Word
  deriving DecidableEq, Repr

/-- The acceptance test of R153 for bound bd at tolerance tol. -/
def boundAccepted (r tol bd : Nat) : Bool :=
  decide (r % (bd + 1) ≤ tol) && decide (1 ≤ r / (bd + 1)) && decide (r / (bd + 1) ≤ 32)

/-- The bounds of the inner loop of R153: 255 down to 1. -/
def boundsDescending : List Nat := (List.range' 1 255).reverse

/-- The nested search of R153: tolerances 0..31 ascending, bounds descending, the first accepted pair. The result is
(tolerance, bound). DESIGN CHOICE, unsafe: after three boosts a ratio of 8193 to 8223 is accepted at bound 255, with
quotient 32 and remainder 1 to 31, as R153's test and R159 have it, where R154's closing sentence says that b = 3 with
r > 8192 always takes the fallback (log entry 21). -/
def toleranceSearch (r : Nat) : Option (Nat × Nat) :=
  (List.range 32).findSome? fun tol =>
    (boundsDescending.find? (boundAccepted r tol)).map fun bd => (tol, bd)

/-- The boost threshold of R152. -/
def tm8Threshold : Nat := 8192

/-- bq of R153, the quotient at the accepted bound, or of the fallback R154. -/
def tm8Quotient (r : Nat) : Option (Nat × Nat) → Nat
  | some (_, bd) => r / (bd + 1)
  | none => 32

/-- bb of R153, or of the fallback R154. -/
def tm8Bound : Option (Nat × Nat) → Nat
  | some (_, bd) => bd
  | none => 255

/-- res of R153, the accepted tolerance, or of the fallback R154. -/
def tm8Residual : Option (Nat × Nat) → Word
  | some (tol, _) => BitVec.ofNat 32 tol
  | none => 0xFFFFFFFF

/-- The end of Tm8Solve: fallback (R154) and register encoding (R155), from the ratio and boosts of R152 and the pair
(tolerance, bound) that the search found. -/
def encodeTm8 (boosted : Word × Nat) (found : Option (Nat × Nat)) : Tm8Solution :=
  { psc := BitVec.ofNat 2 boosted.2
    scalar := BitVec.ofNat 5 (tm8Quotient boosted.1.toNat found - 1)
    bound := BitVec.ofNat 8 (tm8Bound found)
    resid := tm8Residual found
    fallback := found.isNone
    ratio := boosted.1 }

/-- The ratio and boosts of Tm8Solve: default target and ratio (R151), boosts (R152). -/
def tm8Boosted (t clk : Word) (cm : BitVec 2) : Word × Nat :=
  boost tm8Threshold (clockRatio t clk cm)

/-- Tm8Solve(t, clk, cm), R150. -/
def tm8Solve (t clk : Word) (cm : BitVec 2) : Tm8Solution :=
  encodeTm8 (tm8Boosted t clk cm) (toleranceSearch (tm8Boosted t clk cm).1.toNat)

/-- The depth of the PWM sub-mode: 64 if CTRL.TM8_DEPTH = 1, else 256 (R157). -/
def depthOf (d : Bool) : Nat := if d then 64 else 256

/-- The bound of the PWM sub-mode duty solve, R157: the rounded duty minus 1, saturating at 0. -/
def dutyBound (p8 depth : Nat) : Nat :=
  max (roundPercent (min p8 100 * depth)) 1 - 1

/-- The writes to SOLVE, RATIO, RESID and FALLBACK that R156 and R178 share. -/
def writeTm8Solution (sol : Tm8Solution) (s : State) : State :=
  { s with
    solve := { psc := sol.psc, scalar := sol.scalar, bound := sol.bound.zeroExtend 11 }
    ratio := sol.ratio, resid := sol.resid, fallback := sol.fallback }

/-- TM8_PORT.PSC, SCALAR and BOUND <- the solution; TM8_PORT.MODE <- 0 (R156, R178). DEPTH is unchanged. -/
def applyTm8Port (sol : Tm8Solution) (s : State) : State :=
  { s with tm8Port := { s.tm8Port with psc := sol.psc, scalar := sol.scalar, bound := sol.bound, mode := .period } }

/-- TM8_SOLVE, R156. -/
def execTm8Solve (apply : Bool) (s : State) : Host.Outcome State Fault Refusal :=
  let sol := tm8Solve (targetFreq s) s.snap.clkTm8 s.snap.ctrl.tm8Corr
  let s1 := writeTm8Solution sol s
  .next (complete (if apply then applyTm8Port sol s1 else s1))

/-- TM8_DUTY, R157. SOLVE.PSC and SCALAR, RATIO, RESID, DUTY and FALLBACK are unchanged. -/
def execTm8Duty (apply : Bool) (s : State) : Host.Outcome State Fault Refusal :=
  let bd := dutyBound (dutyPercent s) (depthOf s.snap.ctrl.tm8Depth)
  let s1 := { s with solve := { s.solve with bound := BitVec.ofNat 11 bd } }
  .next (complete (if apply then
    { s1 with tm8Port := { s1.tm8Port with
        bound := BitVec.ofNat 8 bd, mode := .pwm, depth := s.snap.ctrl.tm8Depth } }
    else s1))

end Sys2Proof.Machine
end

