-- ==== Sys2Proof/Machine/Stepper.lean ====
section
/-! DEFINITION. The stepper pulse-rate and step-count controller: STP_INIT to STP_EVENT and the step events
(spec/43_stepper.md). A command's checks run in the order of R170, and a failing command changes no stepper state. -/

namespace Sys2Proof.Machine

/-- ClearMotion(), R172. DIR, SRC, the pins and STATE keep their values. -/
def clearMotion (s : State) : State :=
  { s with
    stp := { s.stp with isMoving := false, armed := false, distMode := false, periodState := false }
    stpRevs := 0, stpCur := 0, stpFinal := 0, stpMspr := 0 }

/-- STP_STATE.STATE <- m. -/
def setMode (m : StpMode) (s : State) : State :=
  { s with stp := { s.stp with mode := m } }

/-- RUN[src_bit] <- v, for the bound source (R171). -/
def setSourceRun (v : Bool) (s : State) : State :=
  setRun s.stp.src v s

/-- VelToFreq(v, spr, upr), R173. Requires upr ≠ 0. -/
def velToFreq (v spr upr : Nat) : Nat :=
  if (divN 32 (mulN 16 v spr) (mulN 16 60 upr)).1 = 0 then 1
  else (divN 32 (mulN 16 v spr) (mulN 16 60 upr)).1

/-- PlanMove(dist, spr, upr), R174: (revs, fin). Requires upr ≠ 0 and spr ≠ 0. -/
def planMove (dist spr upr : Nat) : Nat × Nat :=
  ((divN 16 dist upr).1, (divN 32 (mulN 16 (divN 16 dist upr).2 spr) upr).1)

/-- The states in which STP_RUN and STP_MOVE may start (R180, R181). -/
def canStart (m : StpMode) : Bool :=
  match m with
  | .enabled | .stopped => true
  | .uninit | .idle | .movingCont | .movingDist => false

/-- MOVING_CONT or MOVING_DIST. -/
def isMovingMode (m : StpMode) : Bool :=
  match m with
  | .movingCont | .movingDist => true
  | .uninit | .idle | .enabled | .stopped => false

/-- EndOfMove(), R197. -/
def endOfMove (s : State) : State :=
  setMoveDone (setMode .stopped (clearMotion (setSourceRun false s)))

/-- The counted part of R196: STP_CUR up, at STP_MSPR one revolution down, and the stop test. -/
def countStep (s : State) : State :=
  let cur := s.stpCur + 1
  let s1 :=
    if cur = s.stpMspr then { s with stpCur := 0, stpRevs := s.stpRevs - 1 } else { s with stpCur := cur }
  if s1.stpRevs = 0 ∧ s1.stpCur = s1.stpFinal then endOfMove s1 else s1

/-- StepEvent(ch), R196. Ignored unless STATE = MOVING_DIST and ARMED = 1 and ch is the bound source; for the 8-bit
timer the event that brings PERIOD_STATE back to 0 is the one counted. -/
def stepEvent (ch : Channel) (s : State) : State :=
  if s.stp.mode ≠ .movingDist ∨ s.stp.armed = false then s
  else if ch ≠ s.stp.src then s
  else match s.stp.src with
    | .pwm => countStep s
    | .tm8 =>
      let s1 := { s with stp := { s.stp with periodState := !s.stp.periodState } }
      if s1.stp.periodState then s1 else countStep s1

/-- STP_INIT, R175. Allowed in every state. -/
def execStpInit (_apply : Bool) (s : State) : Host.Outcome State Fault Refusal :=
  let s1 := if s.stp.mode ≠ .uninit then setSourceRun false s else s
  let s2 := clearMotion s1
  let s3 := setSourceRun false { s2 with stp := { s2.stp with src := opaSource s } }
  .next (complete { s3 with
    stp := { s3.stp with dir := false, pinEn := false, pinOe := true, mode := .idle } })

/-- STP_ENABLE, R176. -/
def execStpEnable (_apply : Bool) (s : State) : Host.Outcome State Fault Refusal :=
  match s.stp.mode with
  | .uninit => .next (raiseError .state s)
  | .idle => .next (complete { s with stp := { s.stp with pinEn := true, mode := .enabled } })
  | .enabled | .movingCont | .movingDist | .stopped => .next (complete s)

/-- STP_SET_DIR, R177. -/
def execStpSetDir (_apply : Bool) (s : State) : Host.Outcome State Fault Refusal :=
  if s.stp.mode = .uninit then .next (raiseError .state s)
  else .next (complete { s with stp := { s.stp with dir := opaBit s } })

/-- The solve of STP_SET_VEL for target frequency tf (R178): the bound source's solver, its port always written. -/
def applyVelocity (tf : Word) (s : State) : State :=
  match s.stp.src with
  | .pwm =>
    let sol := pwmSolve tf s.snap.clkPwm s.snap.ctrl.pwmCorr s.snap.ctrl.pwmOdd
    applyPwmDuty (applyPwmPort
      { writePwmSolution sol s with duty := pwmDuty 50 sol.reg.bound s.snap.ctrl.dparEn })
  | .tm8 =>
    let sol := tm8Solve tf s.snap.clkTm8 s.snap.ctrl.tm8Corr
    applyTm8Port sol (writeTm8Solution sol s)

/-- STP_SET_VEL, R178. -/
def execStpSetVel (_apply : Bool) (s : State) : Host.Outcome State Fault Refusal :=
  if s.stp.mode = .uninit then .next (raiseError .state s)
  else if unitsPerRev s = 0 then .next (raiseError .divz s)
  else
    let tf := BitVec.ofNat 32 (velToFreq (unitsPerMin s) (stepsPerRev s) (unitsPerRev s))
    .next (complete (applyVelocity tf { s with stpTfreq := tf }))

/-- STP_RUN, R180. -/
def execStpRun (_apply : Bool) (s : State) : Host.Outcome State Fault Refusal :=
  if canStart s.stp.mode = false then .next (raiseError .state s)
  else
    let s1 := clearMotion s
    .next (complete (setSourceRun true
      { s1 with stp := { s1.stp with isMoving := true, mode := .movingCont } }))

/-- The motion that STP_MOVE starts, R181 and R182, from a state whose motion is cleared. -/
def startMove (revs fin : Nat) (s : State) : State :=
  if revs = 0 ∧ fin = 0 then setMoveDone (setMode .stopped s)
  else setSourceRun true { s with
    stpRevs := BitVec.ofNat 16 revs, stpFinal := BitVec.ofNat 16 fin, stpCur := 0, stpMspr := s.snap.stpSpr
    stp := { s.stp with distMode := true, armed := true, isMoving := true, periodState := false, mode := .movingDist } }

/-- STP_MOVE, R181. -/
def execStpMove (_apply : Bool) (s : State) : Host.Outcome State Fault Refusal :=
  if canStart s.stp.mode = false then .next (raiseError .state s)
  else if unitsPerRev s = 0 then .next (raiseError .divz s)
  else if stepsPerRev s = 0 then .next (raiseError .config s)
  else
    let plan := planMove (moveDistance s) (stepsPerRev s) (unitsPerRev s)
    .next (complete (startMove plan.1 plan.2 (clearMotion s)))

/-- STP_STOP, R183. -/
def execStpStop (_apply : Bool) (s : State) : Host.Outcome State Fault Refusal :=
  if s.stp.mode = .uninit then .next (complete s)
  else
    let s1 := clearMotion (setSourceRun false s)
    .next (complete (if isMovingMode s.stp.mode then setMode .stopped s1 else s1))

/-- STP_DISABLE, R184. -/
def execStpDisable (_apply : Bool) (s : State) : Host.Outcome State Fault Refusal :=
  if s.stp.mode = .uninit then .next (complete s)
  else
    let s1 := clearMotion (setSourceRun false s)
    .next (complete { s1 with stp := { s1.stp with pinEn := false, mode := .idle } })

/-- STP_RELEASE, R185. -/
def execStpRelease (_apply : Bool) (s : State) : Host.Outcome State Fault Refusal :=
  if s.stp.mode = .uninit then .next (complete s)
  else
    let s1 := clearMotion (setSourceRun false s)
    .next (complete { s1 with
      stp := { s1.stp with pinEn := false, pinOe := false, dir := false, src := .pwm, mode := .uninit } })

/-- STP_EVENT, R186: one step event of the bound source, in the completion step. -/
def execStpEvent (_apply : Bool) (s : State) : Host.Outcome State Fault Refusal :=
  .next (complete (stepEvent s.stp.src s))

end Sys2Proof.Machine
end

