-- ==== Sys2Proof/Machine/Dispatch.lean ====
section
/-! DEFINITION. The meaning of every command, one arm per constructor of Instr (spec/30_encoding.md R92). -/

namespace Sys2Proof.Machine

def exec (i : Instr) (s : State) : Host.Outcome State Fault Refusal :=
  match i with
  | .nop apply => Sys2Proof.Machine.execNop apply s
  | .div8 apply => Sys2Proof.Machine.execDiv8 apply s
  | .div16 apply => Sys2Proof.Machine.execDiv16 apply s
  | .div24 apply => Sys2Proof.Machine.execDiv24 apply s
  | .div32 apply => Sys2Proof.Machine.execDiv32 apply s
  | .mul8 apply => Sys2Proof.Machine.execMul8 apply s
  | .mul16 apply => Sys2Proof.Machine.execMul16 apply s
  | .pwmSolve apply => Sys2Proof.Machine.execPwmSolve apply s
  | .pwmSolveDuty apply => Sys2Proof.Machine.execPwmSolveDuty apply s
  | .tm8Solve apply => Sys2Proof.Machine.execTm8Solve apply s
  | .tm8Duty apply => Sys2Proof.Machine.execTm8Duty apply s
  | .stpInit apply => Sys2Proof.Machine.execStpInit apply s
  | .stpEnable apply => Sys2Proof.Machine.execStpEnable apply s
  | .stpSetDir apply => Sys2Proof.Machine.execStpSetDir apply s
  | .stpSetVel apply => Sys2Proof.Machine.execStpSetVel apply s
  | .stpRun apply => Sys2Proof.Machine.execStpRun apply s
  | .stpMove apply => Sys2Proof.Machine.execStpMove apply s
  | .stpStop apply => Sys2Proof.Machine.execStpStop apply s
  | .stpDisable apply => Sys2Proof.Machine.execStpDisable apply s
  | .stpRelease apply => Sys2Proof.Machine.execStpRelease apply s
  | .stpEvent apply => Sys2Proof.Machine.execStpEvent apply s

end Sys2Proof.Machine
end

