-- ==== Sys2Proof/Machine/Window.lean ====
section
/-! DEFINITION. The register window: its map (spec/10_state.md R24), the registers as words, and host reads and writes
(spec/20_memory.md). It is PPSB's only address space (R70). -/

namespace Sys2Proof.Machine

/-- The registers of the window (spec/10_state.md R24). -/
inductive Reg where
  | status | ctrl | cmd | opa | opb | res0 | res1 | solve | duty | ratio | resid | clkPwm | clkTm8
  | run | pwmPort | pwmPduty | tm8Port | stpUpr | stpSpr | stpTfreq | stpRevs | stpCur | stpFinal | stpState | stpMspr
  deriving DecidableEq, Repr

/-- The offset of a register (R24). -/
def Reg.offset : Reg → Nat
  | .status => 0x00
  | .ctrl => 0x04
  | .cmd => 0x08
  | .opa => 0x0C
  | .opb => 0x10
  | .res0 => 0x14
  | .res1 => 0x18
  | .solve => 0x1C
  | .duty => 0x20
  | .ratio => 0x24
  | .resid => 0x28
  | .clkPwm => 0x2C
  | .clkTm8 => 0x30
  | .run => 0x34
  | .pwmPort => 0x38
  | .pwmPduty => 0x3C
  | .tm8Port => 0x40
  | .stpUpr => 0x44
  | .stpSpr => 0x48
  | .stpTfreq => 0x4C
  | .stpRevs => 0x50
  | .stpCur => 0x54
  | .stpFinal => 0x58
  | .stpState => 0x5C
  | .stpMspr => 0x60

/-- The registers in the order of their offsets. -/
def allRegs : List Reg :=
  [.status, .ctrl, .cmd, .opa, .opb, .res0, .res1, .solve, .duty, .ratio, .resid, .clkPwm, .clkTm8,
   .run, .pwmPort, .pwmPduty, .tm8Port, .stpUpr, .stpSpr, .stpTfreq, .stpRevs, .stpCur, .stpFinal, .stpState, .stpMspr]

/-- The register at a word offset; none at a reserved offset (R24). -/
def regAt (off : Nat) : Option Reg :=
  allRegs.find? fun r => r.offset == off

/-- CTRL as a word (R28). -/
def Ctrl.word (c : Ctrl) : Word :=
  flagAt 0 c.ieDone ||| flagAt 1 c.ieErr ||| flagAt 2 c.ieMove ||| fieldAt 4 c.pwmCorr ||| fieldAt 6 c.tm8Corr |||
    flagAt 8 c.pwmOdd ||| flagAt 9 c.dparEn ||| flagAt 10 c.tm8Depth

/-- The CTRL fields of a written word; reserved bits are ignored (R28). -/
def Ctrl.ofWord (w : Word) : Ctrl :=
  { ieDone := w.getLsbD 0, ieErr := w.getLsbD 1, ieMove := w.getLsbD 2,
    pwmCorr := w.extractLsb' 4 2, tm8Corr := w.extractLsb' 6 2,
    pwmOdd := w.getLsbD 8, dparEn := w.getLsbD 9, tm8Depth := w.getLsbD 10 }

/-- SOLVE or PWM_PORT as a word (R34, R39). -/
def SolveReg.word (x : SolveReg) : Word :=
  fieldAt 0 x.psc ||| fieldAt 8 x.scalar ||| fieldAt 16 x.bound

/-- TM8_PORT.MODE as a bit (R40). -/
def Tm8Mode.bit : Tm8Mode → Bool
  | .period => false
  | .pwm => true

/-- TM8_PORT as a word (R40). -/
def Tm8Port.word (x : Tm8Port) : Word :=
  fieldAt 0 x.psc ||| fieldAt 8 x.scalar ||| fieldAt 16 x.bound ||| flagAt 24 x.mode.bit ||| flagAt 25 x.depth

/-- STP_STATE.STATE as bits (R44). -/
def StpMode.bits : StpMode → BitVec 3
  | .uninit => 0
  | .idle => 1
  | .enabled => 2
  | .movingCont => 3
  | .movingDist => 4
  | .stopped => 5

/-- STP_STATE.SRC as a bit (R44). -/
def Channel.bit : Channel → Bool
  | .pwm => false
  | .tm8 => true

/-- STP_STATE as a word (R44). -/
def StpState.word (x : StpState) : Word :=
  fieldAt 0 x.mode.bits ||| flagAt 4 x.src.bit ||| flagAt 5 x.dir ||| flagAt 6 x.distMode ||| flagAt 7 x.isMoving |||
    flagAt 8 x.armed ||| flagAt 9 x.periodState ||| flagAt 12 x.pinEn ||| flagAt 13 x.pinOe

/-- RUN as a word (R38). -/
def runWord (s : State) : Word :=
  flagAt 0 s.pwmRun ||| flagAt 1 s.tm8Run

/-- What a register reads as, reserved bits 0 (R25 to R44). -/
def readReg (r : Reg) (s : State) : Word :=
  match r with
  | .status => statusWord s
  | .ctrl => s.ctrl.word
  | .cmd => s.cmd
  | .opa => s.opa
  | .opb => s.opb
  | .res0 => s.res0
  | .res1 => s.res1
  | .solve => s.solve.word
  | .duty => fieldAt 0 s.duty
  | .ratio => s.ratio
  | .resid => s.resid
  | .clkPwm => s.clkPwm
  | .clkTm8 => s.clkTm8
  | .run => runWord s
  | .pwmPort => s.pwmPort.word
  | .pwmPduty => fieldAt 0 s.pwmPduty
  | .tm8Port => s.tm8Port.word
  | .stpUpr => fieldAt 0 s.stpUpr
  | .stpSpr => fieldAt 0 s.stpSpr
  | .stpTfreq => s.stpTfreq
  | .stpRevs => fieldAt 0 s.stpRevs
  | .stpCur => fieldAt 0 s.stpCur
  | .stpFinal => fieldAt 0 s.stpFinal
  | .stpState => s.stp.word
  | .stpMspr => fieldAt 0 s.stpMspr

/-- The byte at a window offset, R72: the byte at 4k + j holds bits 8j+7:8j of the register at 4k; a reserved offset
reads 0 (R75). This is the model's read of one byte. -/
def windowByte (off : Nat) (s : State) : Byte :=
  match regAt (off - off % 4) with
  | some r => (readReg r s).extractLsb' (8 * (off % 4)) 8
  | none => 0

/-- The number of bytes of an access. -/
def AccessSize.bytes : AccessSize → Nat
  | .byte => 1
  | .half => 2
  | .word => 4

/-- The value an aligned read returns, R72: the byte at the lowest offset is the least significant. -/
def readWindow (off : Nat) (n : AccessSize) (s : State) : Word :=
  match n with
  | .byte => fieldAt 0 (windowByte off s)
  | .half => fieldAt 0 (windowByte off s) ||| fieldAt 8 (windowByte (off + 1) s)
  | .word =>
    fieldAt 0 (windowByte off s) ||| fieldAt 8 (windowByte (off + 1) s) |||
      fieldAt 16 (windowByte (off + 2) s) ||| fieldAt 24 (windowByte (off + 3) s)

/-- The bits of a register that an access of n bytes at byte j covers. -/
def laneMask (j : Nat) (n : AccessSize) : Word :=
  BitVec.ofNat 32 (2 ^ (8 * n.bytes) - 1) <<< (8 * j)

/-- The register word after the bytes of an access replace theirs (R72, R73). -/
def mergeBytes (old : Word) (j : Nat) (n : AccessSize) (v : Word) : Word :=
  (old &&& ~~~ laneMask j n) ||| ((v <<< (8 * j)) &&& laneMask j n)

/-- An aligned write of n bytes at byte j of a register, R73. RW bits take the written value; STATUS is W1C (R26); a
write that covers byte 0 of CMD issues (R90); RO registers ignore it. -/
def writeReg (r : Reg) (j : Nat) (n : AccessSize) (v : Word) (s : State) : State :=
  match r with
  | .status => if j = 0 then clearStatus v s else s
  | .ctrl => { s with ctrl := Ctrl.ofWord (mergeBytes s.ctrl.word j n v) }
  | .cmd =>
    let s1 := { s with cmd := mergeBytes s.cmd j n v }
    if j = 0 then issue s1 else s1
  | .opa => { s with opa := mergeBytes s.opa j n v }
  | .opb => { s with opb := mergeBytes s.opb j n v }
  | .clkPwm => { s with clkPwm := mergeBytes s.clkPwm j n v }
  | .clkTm8 => { s with clkTm8 := mergeBytes s.clkTm8 j n v }
  | .run => { s with
      pwmRun := (mergeBytes (runWord s) j n v).getLsbD 0
      tm8Run := (mergeBytes (runWord s) j n v).getLsbD 1 }
  | .stpUpr => { s with stpUpr := (mergeBytes (fieldAt 0 s.stpUpr) j n v).truncate 16 }
  | .stpSpr => { s with stpSpr := (mergeBytes (fieldAt 0 s.stpSpr) j n v).truncate 16 }
  | .res0 | .res1 | .solve | .duty | .ratio | .resid | .pwmPort | .pwmPduty | .tm8Port
  | .stpTfreq | .stpRevs | .stpCur | .stpFinal | .stpState | .stpMspr => s

/-- An aligned write at a window offset; a reserved offset ignores it (R75). -/
def writeWindow (off : Nat) (n : AccessSize) (v : Word) (s : State) : State :=
  match regAt (off - off % 4) with
  | some r => writeReg r (off % 4) n v s
  | none => s

/-- The window offset of an access, if PPSB is addressed: off in 0..127 (R71). -/
def windowOffset (off : Int) : Option Nat :=
  if 0 ≤ off ∧ off < 128 then some off.toNat else none

/-- off mod n ≠ 0 (R71). -/
def misaligned (off : Nat) (n : AccessSize) : Bool := off % n.bytes != 0

/-- A host read with `rst` released, R71, R72, R74: its value goes to `readData` (log entry 6). Alignment is tested before
the offset's register is sought. DESIGN CHOICE, unsafe: a misaligned read at a reserved offset (0x64 to 0x7F) reports BUS
as R74 has it for every off in 0..127, where R75 says that a reserved offset raises no error (log entry 20). -/
def hostRead (off : Int) (n : AccessSize) (s : State) : State :=
  match windowOffset off with
  | none => s
  | some o =>
    if misaligned o n then { setError .bus s with readData := 0 }
    else { s with readData := readWindow o n s }

/-- A host write with `rst` released, R71, R73, R74. DESIGN CHOICE, unsafe: a misaligned write at a reserved offset reports
BUS (R74), where R75 says that a reserved offset raises no error (log entry 20). -/
def hostWrite (off : Int) (n : AccessSize) (v : Word) (s : State) : State :=
  match windowOffset off with
  | none => s
  | some o => if misaligned o n then setError .bus s else writeWindow o n v s

/-- A host read while `rst` is asserted: "host accesses are ignored and reads return 0" (spec/70_reset_and_hazards.md
R240, log entry 11). -/
def hostReadInReset (off : Int) (s : State) : State :=
  match windowOffset off with
  | none => s
  | some _ => { s with readData := 0 }

/-- `off = addr - BLOCK_BASE` (R71). -/
def offsetOf (addr : Nat) : Int := (addr : Int) - (Config.blockBase : Int)

/-- MemRead(addr, n), a bus read at a byte address (spec/00_scope.md R10), as an entry of `inputs`. -/
def memRead (addr : Nat) (n : AccessSize) : Input := .hostRead (offsetOf addr) n

/-- MemWrite(addr, n, v), a bus write at a byte address (spec/00_scope.md R10), as an entry of `inputs`. -/
def memWrite (addr : Nat) (n : AccessSize) (v : Word) : Input := .hostWrite (offsetOf addr) n v

end Sys2Proof.Machine
end

