-- ==== Sys2Proof/Machine/Agents.lean ====
section
/-! DEFINITION. The atomic steps of the agents of spec/10_state.md R20: the engine's completion (spec/60_exceptions.md
R212), the host's accesses, the step events and the reset (spec/70_reset_and_hazards.md R240). -/

namespace Sys2Proof.Machine

/-- The completion of the command in `eng_cmd`: decode it, and perform its rule in full, or end it with ILLEGAL
(spec/30_encoding.md R95, spec/60_exceptions.md R212). -/
def completeCommand (s : State) : Host.Outcome State Fault Refusal :=
  match decode s.engCmd with
  | .ok i => exec i s
  | .error _ => .next (raiseError .illegal s)

/-- The engine's step. It has one "while eng_busy = 1" and none otherwise (R212), and none while `rst` is asserted
(R240): the state then stays as it is (log entry 2). -/
def engineStep (s : State) : Host.Outcome State Fault Refusal :=
  if s.engBusy ∧ s.rst = false then completeCommand s else .next s

/-- Reset, R240: every register takes its reset value and a command in flight is discarded. The level of `rst`, the
host's `readData` and the agents' later steps are not registers of the block. -/
def blockReset (level : Bool) (s : State) : State :=
  { State.reset with rst := level, readData := s.readData, inputs := s.inputs }

/-- The step of an agent other than the engine. While `rst` is asserted every input but its release is ignored (R240).
Releasing an input that is not asserted is no release. -/
def inputStep (i : Input) (s : State) : State :=
  match i with
  | .hostRead off n => if s.rst then hostReadInReset off s else hostRead off n s
  | .hostWrite off n v => if s.rst then s else hostWrite off n v s
  | .evtPwm => if s.rst then s else stepEvent .pwm s
  | .evtTm8 => if s.rst then s else stepEvent .tm8 s
  | .rstAssert => blockReset true s
  | .rstRelease => if s.rst then blockReset false s else s
  | .engine => s

/-- A command word placed as if the host had just written it to CMD with the engine idle: stored in CMD and issued
(spec/30_encoding.md R90), with `rst` released. -/
def issueWord (w : Word) (s : State) : State :=
  issue { s with cmd := w, engBusy := false, rst := false }

end Sys2Proof.Machine
end

