-- ==== Sys2Proof/Machine/Step.lean ====
section
/-! DEFINITION. One step of PPSB: the first entry of `inputs`, or the engine where none is left (log entries 1, 2, 7). -/

namespace Sys2Proof.Machine

/-- One atomic step of one agent (spec/10_state.md R20). The host, the events and `rst` act by the next entry of
`inputs`, and so does the engine (`Input.engine`), which also acts when no entry is left: "every issued command completes
after finitely many steps of the other agents" (spec/70_reset_and_hazards.md R252). -/
def step (s : State) : Host.Outcome State Fault Refusal :=
  match s.inputs with
  | [] => engineStep s
  | .engine :: rest => engineStep { s with inputs := rest }
  | i :: rest => .next (inputStep i { s with inputs := rest })

/-- The word `w` as the command that the next step completes: issued (R90), and the engine's step first in `inputs`. PPSB
fetches nothing (R21): the host places every command, so this stands for the host's write (log entry 7). -/
def State.withFetchWord (s : State) (nbits w : Nat) : State :=
  issueWord (BitVec.ofNat 32 (w % 2 ^ nbits)) { s with inputs := .engine :: s.inputs }

end Sys2Proof.Machine
end

