-- ==== Sys2Proof/Machine/Signals.lean ====
section
/-! DEFINITION. The outputs that PPSB drives continuously from its state (spec/10_state.md R48). -/

namespace Sys2Proof.Machine

/-- The output signals of R48. -/
structure Outputs where
  irq : Bool
  pwmPsc : BitVec 2
  pwmScalar : BitVec 5
  pwmCounter : BitVec 11
  pwmDuty : BitVec 11
  pwmRun : Bool
  tm8Psc : BitVec 2
  tm8Scalar : BitVec 5
  tm8Bound : BitVec 8
  tm8Mode : Bool
  tm8Depth : Bool
  tm8Run : Bool
  stpDir : Bool
  stpEn : Bool
  stpOe : Bool
  deriving DecidableEq, Repr

/-- The outputs of a state (R48). -/
def outputs (s : State) : Outputs :=
  { irq := irq s
    pwmPsc := s.pwmPort.psc, pwmScalar := s.pwmPort.scalar, pwmCounter := s.pwmPort.bound, pwmDuty := s.pwmPduty
    pwmRun := s.pwmRun
    tm8Psc := s.tm8Port.psc, tm8Scalar := s.tm8Port.scalar, tm8Bound := s.tm8Port.bound
    tm8Mode := s.tm8Port.mode.bit, tm8Depth := s.tm8Port.depth
    tm8Run := s.tm8Run
    stpDir := s.stp.dir, stpEn := s.stp.pinEn, stpOe := s.stp.pinOe }

/-- The direction pin: driven with `stp_dir` while `stp_oe` = 1, floating (no level) otherwise (R48, log entry 12). -/
def directionPin (s : State) : Option Bool := if s.stp.pinOe then some s.stp.dir else none

/-- The enable pin: driven with `stp_en` while `stp_oe` = 1, floating (no level) otherwise (R48, log entry 12). -/
def enablePin (s : State) : Option Bool := if s.stp.pinOe then some s.stp.pinEn else none

end Sys2Proof.Machine
end

