-- ==== Sys2Proof/Safety.lean ====
section
/-! DEFINITION. What claims about runs of PPSB use: the invariants of spec/10_state.md R45 and those the model adds to
them, quiescence (spec/70_reset_and_hazards.md R255), and the events a move still needs (spec/43_stepper.md R198). -/

namespace Sys2Proof.Machine

/-- The invariants of R45, one clause for each of its items. -/
abbrev StepperInvariant (s : State) : Prop :=
  (s.stp.isMoving = true ↔ s.stp.mode = .movingCont ∨ s.stp.mode = .movingDist) ∧
  (s.stp.armed = true ↔ s.stp.mode = .movingDist) ∧
  (s.stp.pinEn = true ↔
    s.stp.mode = .enabled ∨ s.stp.mode = .movingCont ∨ s.stp.mode = .movingDist ∨ s.stp.mode = .stopped) ∧
  (s.stp.pinOe = true ↔ s.stp.mode ≠ .uninit) ∧
  (s.stp.mode = .movingDist → s.stpMspr ≠ 0 ∧ s.stpCur.toNat < s.stpMspr.toNat) ∧
  (s.stp.mode ≠ .movingDist →
    s.stpRevs = 0 ∧ s.stpCur = 0 ∧ s.stpFinal = 0 ∧ s.stpMspr = 0 ∧ s.stp.periodState = false)

/-- What R181, R196 and R198 keep true of a move in progress beside R45: the target is a step of the revolution, and
the move is not over. -/
abbrev MoveInvariant (s : State) : Prop :=
  (s.stp.distMode = true ↔ s.stp.mode = .movingDist) ∧
  (s.stp.mode = .movingDist →
    s.stpFinal.toNat < s.stpMspr.toNat ∧ (s.stpRevs ≠ 0 ∨ s.stpCur.toNat < s.stpFinal.toNat)) ∧
  (s.stp.src = .pwm → s.stp.periodState = false)

/-- A binding exists only once initialised: in UNINIT STP_STATE reads 0 (R185: "after release STP_STATE = 0"). -/
abbrev UnboundInvariant (s : State) : Prop :=
  s.stp.mode = .uninit → s.stp.src = .pwm ∧ s.stp.dir = false

/-- ERRCODE is 0 (NONE) exactly while ERR is 0 (spec/60_exceptions.md R210, spec/10_state.md R26). -/
abbrev ErrorInvariant (s : State) : Prop :=
  s.err = true ↔ s.errCode ≠ .none

/-- RESID is 0..31, or all ones exactly when FALLBACK = 1 (spec/10_state.md R27, R36). -/
abbrev ResidualInvariant (s : State) : Prop :=
  (s.fallback = true → s.resid = 0xFFFFFFFF) ∧ (s.fallback = false → s.resid.toNat ≤ 31)

/-- While `rst` is asserted PPSB is reset (spec/70_reset_and_hazards.md R240). -/
abbrev ResetInvariant (s : State) : Prop :=
  s.rst = true → s = { State.reset with rst := true, readData := s.readData, inputs := s.inputs }

/-- The invariant that every step of PPSB keeps. -/
abbrev Invariant (s : State) : Prop :=
  StepperInvariant s ∧ MoveInvariant s ∧ UnboundInvariant s ∧ ErrorInvariant s ∧ ResidualInvariant s ∧ ResetInvariant s

/-- No more events are delivered: no pulse of `evt_pwm` or `evt_tm8` is left (spec/70_reset_and_hazards.md R254, R255;
log entry 22). -/
abbrev NoMoreEvents (s : State) : Prop :=
  .evtPwm ∉ s.inputs ∧ .evtTm8 ∉ s.inputs

/-- PPSB is quiescent: no command runs and no move waits for events, or no more events are delivered
(spec/70_reset_and_hazards.md R255; the grouping is that of its comma, log entry 22). -/
abbrev Quiescent (s : State) : Prop :=
  (s.engBusy = false ∧ s.stp.mode ≠ .movingDist) ∨ NoMoreEvents s

/-- An entry of `inputs` that is a host access. -/
def isHostAccess : Input → Bool
  | .hostRead _ _ => true
  | .hostWrite _ _ _ => true
  | .engine => false
  | .evtPwm => false
  | .evtTm8 => false
  | .rstAssert => false
  | .rstRelease => false

/-- "A run of a model ends when the host program has no next access" (spec/70_reset_and_hazards.md R255). -/
abbrev RunEnded (s : State) : Prop :=
  s.inputs.any isHostAccess = false

/-- The counted events that a move in progress still needs (spec/43_stepper.md R198). -/
def countedEventsLeft (s : State) : Nat :=
  s.stpRevs.toNat * s.stpMspr.toNat + s.stpFinal.toNat - s.stpCur.toNat

/-- The event pulses of the bound source that a move in progress still needs (spec/43_stepper.md R198). -/
def pulsesLeft (s : State) : Nat :=
  match s.stp.src with
  | .pwm => countedEventsLeft s
  | .tm8 => 2 * countedEventsLeft s - (if s.stp.periodState then 1 else 0)

/-- The event input of a pulse source. -/
def pulseOf (ch : Channel) : Input :=
  match ch with
  | .pwm => .evtPwm
  | .tm8 => .evtTm8

end Sys2Proof.Machine
end

