-- ==== Sys2Proof/Certificates/Slice0/Obligations.lean ====
section
/-! DEFINITION. The statements for the provers. `Sys2Proof.Claims` holds what they are written with: the ends of a command
and the rules' results in plain arithmetic of Nat, spelled from the spec and not from the model's own functions. -/

namespace Sys2Proof.Claims

open Sys2Proof.Machine

/-- The end of a command without error, spec/60_exceptions.md R213. -/
def succeeded (s : State) : State :=
  { s with engBusy := false, done := true }

/-- The end of a command in an error, spec/60_exceptions.md R214. -/
def failed (c : ErrCode) (s : State) : State :=
  { s with err := true, errCode := c, engBusy := false, done := true }

/-- The engine has its step and it is the next one: a command is issued, `rst` is released, and the next entry of
`inputs` is the engine's, or none is left. -/
abbrev EngineNext (s : State) : Prop :=
  s.engBusy = true ∧ s.rst = false ∧ (s.inputs = [] ∨ s.inputs.head? = some .engine)

/-- The next step is a reset: `rst` is asserted or released. -/
abbrev ResetNext (s : State) : Prop :=
  s.inputs.head? = some .rstAssert ∨ s.inputs.head? = some .rstRelease

/-- The state as an agent's step finds it: its own entry of `inputs` is taken. -/
def entryTaken (s : State) : State :=
  { s with inputs := s.inputs.tail }

/-- The opcode table of spec/30_encoding.md R92. -/
def opcodeTable : List Nat :=
  [0, 1, 2, 3, 4, 8, 9, 16, 17, 24, 25, 32, 33, 34, 35, 36, 37, 38, 39, 40, 41]

/-- "Encoding: OPC opc": every word with that opcode and zero reserved bits is that command with its APPLY bit, and with
other reserved bits it completes with ILLEGAL. -/
def EncodedAs (opc : Nat) (command : Bool → Instr) : Prop :=
  (∀ w : Word, w.toNat % 256 = opc → w.toNat / 512 = 0 → decode w = .ok (command (w.toNat / 256 % 2 == 1))) ∧
  (∀ s : State, EngineNext s → s.engCmd.toNat % 256 = opc → s.engCmd.toNat / 512 ≠ 0 →
    step s = .next (failed .illegal (entryTaken s)))

/-- What spec/40_arith.md R113 to R116 say of the divide at one width. -/
def DividesAt (width opc : Nat) (command : Bool → Instr) : Prop :=
  EncodedAs opc command ∧
  ∀ (apply : Bool) (s : State),
    (s.snap.opb.toNat % 2 ^ width = 0 → exec (command apply) s = .next (failed .divz s)) ∧
    (s.snap.opb.toNat % 2 ^ width ≠ 0 → exec (command apply) s = .next (succeeded { s with
      res0 := BitVec.ofNat 32 (s.snap.opa.toNat % 2 ^ width / (s.snap.opb.toNat % 2 ^ width))
      res1 := BitVec.ofNat 32 (s.snap.opa.toNat % 2 ^ width % (s.snap.opb.toNat % 2 ^ width)) }))

/-- What spec/40_arith.md R120 and R121 say of the multiply at one width. -/
def MultipliesAt (width opc : Nat) (command : Bool → Instr) : Prop :=
  EncodedAs opc command ∧
  ∀ (apply : Bool) (s : State), exec (command apply) s = .next (succeeded { s with
    res0 := BitVec.ofNat 32 (s.snap.opa.toNat % 2 ^ width * (s.snap.opb.toNat % 2 ^ width))
    res1 := 0 })

/-- The target after spec/41_pwm11.md R131 and spec/42_tm8.md R151. -/
def target (t clk : Nat) : Nat :=
  if t = 0 then max (clk / 16) 1 else t

/-- `corr(r, m)` of spec/10_state.md R29. -/
def corrected (r m : Nat) : Nat :=
  if m = 0 then r else if m = 1 then r * 2 % 2 ^ 32 else if m = 2 then r / 2 else r / 2 + 1

/-- The number of boosts of spec/41_pwm11.md R133 and spec/42_tm8.md R152. -/
def boostCount (threshold r : Nat) : Nat :=
  if r ≤ threshold then 0 else if r / 4 ≤ threshold then 1 else if r / 16 ≤ threshold then 2 else 3

/-- The ratio before the boosts. -/
def rawRatio (t clk m : Nat) : Nat := corrected (clk / target t clk) m

/-- The ratio that the search divides. -/
def boostedRatio (threshold t clk m : Nat) : Nat :=
  rawRatio t clk m / 4 ^ boostCount threshold (rawRatio t clk m)

/-- A quotient that spec/41_pwm11.md R134 accepts. -/
def QuotientAllowed (odd : Bool) (q : Nat) : Prop :=
  (odd = true → q % 2 = 1) ∧ 1 ≤ q ∧ q < 2048

/-- The scalar that spec/41_pwm11.md R134 finds: the least remainder, and the first scalar that has it. -/
def BestScalar (odd : Bool) (r s : Nat) : Prop :=
  1 ≤ s ∧ s ≤ 32 ∧ QuotientAllowed odd (r / s) ∧
  ∀ s', 1 ≤ s' → s' ≤ 32 → QuotientAllowed odd (r / s') → r % s ≤ r % s' ∧ (s' < s → r % s < r % s')

/-- No scalar candidate is accepted. -/
def NoScalar (odd : Bool) (r : Nat) : Prop :=
  ∀ s, 1 ≤ s → s ≤ 32 → ¬ QuotientAllowed odd (r / s)

/-- The result of the 11-bit solver, spec/41_pwm11.md R130 to R136. -/
def IsPwmSolution (t clk m : Nat) (odd : Bool) (reg : SolveReg) (resid ratio : Word) (fallback : Bool) : Prop :=
  ratio.toNat = boostedRatio 65504 t clk m ∧
  reg.psc.toNat = boostCount 65504 (rawRatio t clk m) ∧
  ((∃ s, BestScalar odd (boostedRatio 65504 t clk m) s ∧ reg.scalar.toNat = s - 1 ∧
      reg.bound.toNat = boostedRatio 65504 t clk m / s - 1 ∧
      resid.toNat = boostedRatio 65504 t clk m % s ∧ fallback = false) ∨
   (NoScalar odd (boostedRatio 65504 t clk m) ∧ reg.scalar.toNat = 31 ∧ reg.bound.toNat = 2046 ∧
      resid = 0xFFFFFFFF ∧ fallback = true))

/-- The duty of spec/41_pwm11.md R137 before the clamp and the parity function: percent saturated at 100, rounded to
nearest with a tie up. -/
def dutyRounded (percent cr : Nat) : Nat := (min percent 100 * (cr + 1) + 50) / 100

/-- The duty of spec/41_pwm11.md R137; DutyParityFn is the open parameter, and the statement holds for every one. -/
def dutyOf (percent cr : Nat) (dpar : Bool) : Nat :=
  min (if dpar then (Config.dutyParityFn (dutyRounded percent cr) cr).toNat else dutyRounded percent cr) cr

/-- A bound in the set C of spec/42_tm8.md R159. -/
def BoundInRange (r bd : Nat) : Prop :=
  1 ≤ bd ∧ bd ≤ 255 ∧ 1 ≤ r / (bd + 1) ∧ r / (bd + 1) ≤ 32

/-- The bound of the closed form of spec/42_tm8.md R159: the least remainder, and the largest bound that has it. -/
def BestBound (r bd : Nat) : Prop :=
  BoundInRange r bd ∧ r % (bd + 1) ≤ 31 ∧
  ∀ bd', BoundInRange r bd' → r % (bd + 1) ≤ r % (bd' + 1) ∧ (bd < bd' → r % (bd + 1) < r % (bd' + 1))

/-- C is empty or its least remainder is above 31. -/
def NoBound (r : Nat) : Prop :=
  ∀ bd, BoundInRange r bd → 31 < r % (bd + 1)

/-- The result of the 8-bit timer solver, spec/42_tm8.md R150 to R155, by the closed form of R159. -/
def IsTm8Solution (t clk m : Nat) (psc : BitVec 2) (scalar : BitVec 5) (bound : BitVec 8) (resid ratio : Word)
    (fallback : Bool) : Prop :=
  ratio.toNat = boostedRatio 8192 t clk m ∧
  psc.toNat = boostCount 8192 (rawRatio t clk m) ∧
  ((∃ bd, BestBound (boostedRatio 8192 t clk m) bd ∧ bound.toNat = bd ∧
      scalar.toNat = boostedRatio 8192 t clk m / (bd + 1) - 1 ∧
      resid.toNat = boostedRatio 8192 t clk m % (bd + 1) ∧ fallback = false) ∨
   (NoBound (boostedRatio 8192 t clk m) ∧ scalar.toNat = 31 ∧ bound.toNat = 255 ∧
      resid = 0xFFFFFFFF ∧ fallback = true))

/-- The bound of spec/42_tm8.md R157. -/
def tm8DutyBound (percent : Nat) (depth64 : Bool) : Nat :=
  max ((min percent 100 * (if depth64 then 64 else 256) + 50) / 100) 1 - 1

/-- The motion state cleared, spec/43_stepper.md R172. -/
def motionCleared (s : State) : State :=
  { s with
    stpRevs := 0, stpCur := 0, stpFinal := 0, stpMspr := 0
    stp := { mode := s.stp.mode, src := s.stp.src, dir := s.stp.dir, pinEn := s.stp.pinEn, pinOe := s.stp.pinOe
             distMode := false, isMoving := false, armed := false, periodState := false } }

/-- RUN with the bit of the bound source set to v, spec/43_stepper.md R171. -/
def sourceRun (v : Bool) (s : State) : State :=
  { s with
    pwmRun := if s.stp.src = .pwm then v else s.pwmRun
    tm8Run := if s.stp.src = .tm8 then v else s.tm8Run }

/-- The modes from which a motion may start. -/
abbrev Startable (s : State) : Prop := s.stp.mode = .enabled ∨ s.stp.mode = .stopped

/-- The target frequency of spec/43_stepper.md R173. -/
def pulseFrequency (v spr upr : Nat) : Nat := max (v * spr / (60 * upr)) 1

/-- The end of a move, spec/43_stepper.md R197. -/
def moveEnded (s : State) : State :=
  { motionCleared (sourceRun false s) with
    moveDone := true, stp := { (motionCleared s).stp with mode := .stopped } }

/-- The revolution and step counters after one counted event, spec/43_stepper.md R196. -/
def nextCount (s : State) : Half × Half :=
  if s.stpCur + 1 = s.stpMspr then (s.stpRevs - 1, 0) else (s.stpRevs, s.stpCur + 1)

/-- One counted event, spec/43_stepper.md R196: the new counters, and the end of the move where they reach the target. -/
def eventCounted (s : State) : State :=
  if (nextCount s).1 = 0 ∧ (nextCount s).2 = s.stpFinal then moveEnded s
  else { s with stpRevs := (nextCount s).1, stpCur := (nextCount s).2 }

/-- An event of channel `ch` is ignored, spec/43_stepper.md R196, R199. -/
abbrev EventIgnored (ch : Channel) (s : State) : Prop :=
  s.stp.mode ≠ .movingDist ∨ s.stp.armed = false ∨ ch ≠ s.stp.src

/-- A step event of channel `ch`, spec/43_stepper.md R196: ignored; the first of a pair, which only sets PERIOD_STATE;
or counted. -/
def eventTaken (ch : Channel) (s : State) : State :=
  if EventIgnored ch s then s
  else if s.stp.src = .tm8 ∧ s.stp.periodState = false then { s with stp := { s.stp with periodState := true } }
  else if s.stp.src = .tm8 then eventCounted { s with stp := { s.stp with periodState := false } }
  else eventCounted s

/-- Byte k of a word, spec/20_memory.md R72. -/
def byteAt (w : Word) (k : Nat) : Byte := w.extractLsb' (8 * k) 8

/-- `new` is `old` with bytes j to j + n - 1 replaced by the low bytes of v, spec/20_memory.md R72. -/
def BytesReplaced (old : Word) (j : Nat) (n : AccessSize) (v new : Word) : Prop :=
  ∀ k, k < 4 → byteAt new k = if j ≤ k ∧ k < j + n.bytes then byteAt v (k - j) else byteAt old k

/-- The registers that a command reads through its snapshot, spec/10_state.md R46. -/
abbrev Snapshotted (r : Reg) : Prop :=
  r = .ctrl ∨ r = .opa ∨ r = .opb ∨ r = .clkPwm ∨ r = .clkTm8 ∨ r = .stpUpr ∨ r = .stpSpr

/-- The registers whose bits the host reads and writes and that do nothing more, RW of spec/10_state.md R24. CMD is RW
too and also issues. -/
abbrev PlainReadWrite (r : Reg) : Prop := Snapshotted r ∨ r = .run

/-- The RO registers of spec/10_state.md R24. -/
abbrev ReadOnly (r : Reg) : Prop :=
  r = .res0 ∨ r = .res1 ∨ r = .solve ∨ r = .duty ∨ r = .ratio ∨ r = .resid ∨ r = .pwmPort ∨ r = .pwmPduty ∨
  r = .tm8Port ∨ r = .stpTfreq ∨ r = .stpRevs ∨ r = .stpCur ∨ r = .stpFinal ∨ r = .stpState ∨ r = .stpMspr

/-- The bits of a register that spec/10_state.md R25 to R44 name; every other bit is reserved. -/
def namedBits (r : Reg) : Word :=
  match r with
  | .status => 0x00000F3F
  | .ctrl => 0x000007F7
  | .solve | .pwmPort => 0x07FF1F03
  | .duty | .pwmPduty => 0x000007FF
  | .run => 0x00000003
  | .tm8Port => 0x03FF1F03
  | .stpUpr | .stpSpr | .stpRevs | .stpCur | .stpFinal | .stpMspr => 0x0000FFFF
  | .stpState => 0x000033F7
  | .cmd | .opa | .opb | .res0 | .res1 | .ratio | .resid | .clkPwm | .clkTm8 | .stpTfreq => 0xFFFFFFFF

/-- The numbers of STATUS.ERRCODE, spec/60_exceptions.md R210. -/
def errorNumber (c : ErrCode) : Nat :=
  match c with
  | .none => 0
  | .illegal => 1
  | .divz => 2
  | .busy => 3
  | .state => 4
  | .config => 5
  | .bus => 6

/-- The numbers of STP_STATE.STATE, spec/10_state.md R44. -/
def stateNumber (m : StpMode) : Nat :=
  match m with
  | .uninit => 0
  | .idle => 1
  | .enabled => 2
  | .movingCont => 3
  | .movingDist => 4
  | .stopped => 5

/-- A word with the layout of SOLVE, spec/10_state.md R34, shows these fields. -/
abbrev ShowsSolve (w : Word) (x : SolveReg) : Prop :=
  w.extractLsb' 0 2 = x.psc ∧ w.extractLsb' 8 5 = x.scalar ∧ w.extractLsb' 16 11 = x.bound

/-- The layout of STATUS, spec/10_state.md R25, with the error numbers of spec/60_exceptions.md R210. -/
abbrev StatusLayout (s : State) : Prop :=
  (readReg .status s).getLsbD 0 = s.engBusy ∧ (readReg .status s).getLsbD 1 = s.done ∧
  (readReg .status s).getLsbD 2 = s.err ∧ (readReg .status s).getLsbD 3 = s.moveDone ∧
  (readReg .status s).getLsbD 4 = s.fallback ∧ (readReg .status s).getLsbD 5 = (outputs s).irq ∧
  ((readReg .status s).extractLsb' 8 4).toNat = errorNumber s.errCode

/-- The layout of CTRL, spec/10_state.md R28. -/
abbrev CtrlLayout (s : State) : Prop :=
  (readReg .ctrl s).getLsbD 0 = s.ctrl.ieDone ∧ (readReg .ctrl s).getLsbD 1 = s.ctrl.ieErr ∧
  (readReg .ctrl s).getLsbD 2 = s.ctrl.ieMove ∧ (readReg .ctrl s).extractLsb' 4 2 = s.ctrl.pwmCorr ∧
  (readReg .ctrl s).extractLsb' 6 2 = s.ctrl.tm8Corr ∧ (readReg .ctrl s).getLsbD 8 = s.ctrl.pwmOdd ∧
  (readReg .ctrl s).getLsbD 9 = s.ctrl.dparEn ∧ (readReg .ctrl s).getLsbD 10 = s.ctrl.tm8Depth

/-- The layouts of SOLVE, DUTY, PWM_PORT, PWM_PDUTY, TM8_PORT and RUN, spec/10_state.md R34, R35, R38 to R40. -/
abbrev SolverLayouts (s : State) : Prop :=
  ShowsSolve (readReg .solve s) s.solve ∧ ShowsSolve (readReg .pwmPort s) s.pwmPort ∧
  (readReg .duty s).extractLsb' 0 11 = s.duty ∧ (readReg .pwmPduty s).extractLsb' 0 11 = s.pwmPduty ∧
  (readReg .tm8Port s).extractLsb' 0 2 = s.tm8Port.psc ∧ (readReg .tm8Port s).extractLsb' 8 5 = s.tm8Port.scalar ∧
  (readReg .tm8Port s).extractLsb' 16 8 = s.tm8Port.bound ∧
  ((readReg .tm8Port s).getLsbD 24 = true ↔ s.tm8Port.mode = .pwm) ∧
  (readReg .tm8Port s).getLsbD 25 = s.tm8Port.depth ∧
  (readReg .run s).getLsbD 0 = s.pwmRun ∧ (readReg .run s).getLsbD 1 = s.tm8Run

/-- The layouts of STP_STATE, with its state numbers, and of the 16-bit stepper registers, spec/10_state.md R41, R43,
R44. -/
abbrev StepperLayouts (s : State) : Prop :=
  ((readReg .stpState s).extractLsb' 0 3).toNat = stateNumber s.stp.mode ∧
  ((readReg .stpState s).getLsbD 4 = true ↔ s.stp.src = .tm8) ∧ (readReg .stpState s).getLsbD 5 = s.stp.dir ∧
  (readReg .stpState s).getLsbD 6 = s.stp.distMode ∧ (readReg .stpState s).getLsbD 7 = s.stp.isMoving ∧
  (readReg .stpState s).getLsbD 8 = s.stp.armed ∧ (readReg .stpState s).getLsbD 9 = s.stp.periodState ∧
  (readReg .stpState s).getLsbD 12 = s.stp.pinEn ∧ (readReg .stpState s).getLsbD 13 = s.stp.pinOe ∧
  (readReg .stpUpr s).extractLsb' 0 16 = s.stpUpr ∧ (readReg .stpSpr s).extractLsb' 0 16 = s.stpSpr ∧
  (readReg .stpRevs s).extractLsb' 0 16 = s.stpRevs ∧ (readReg .stpCur s).extractLsb' 0 16 = s.stpCur ∧
  (readReg .stpFinal s).extractLsb' 0 16 = s.stpFinal ∧ (readReg .stpMspr s).extractLsb' 0 16 = s.stpMspr

/-- The registers of one 32-bit field, spec/10_state.md R31 to R33, R36, R37, R42. -/
abbrev WordLayouts (s : State) : Prop :=
  readReg .cmd s = s.cmd ∧ readReg .opa s = s.opa ∧ readReg .opb s = s.opb ∧ readReg .res0 s = s.res0 ∧
  readReg .res1 s = s.res1 ∧ readReg .ratio s = s.ratio ∧ readReg .resid s = s.resid ∧
  readReg .clkPwm s = s.clkPwm ∧ readReg .clkTm8 s = s.clkTm8 ∧ readReg .stpTfreq s = s.stpTfreq

/-- The outputs of spec/10_state.md R48 by the bits of the registers that drive them. -/
abbrev OutputsFollowRegisters (s : State) : Prop :=
  (outputs s).pwmPsc = (readReg .pwmPort s).extractLsb' 0 2 ∧
  (outputs s).pwmScalar = (readReg .pwmPort s).extractLsb' 8 5 ∧
  (outputs s).pwmCounter = (readReg .pwmPort s).extractLsb' 16 11 ∧
  (outputs s).pwmDuty = (readReg .pwmPduty s).extractLsb' 0 11 ∧
  (outputs s).pwmRun = (readReg .run s).getLsbD 0 ∧
  (outputs s).tm8Psc = (readReg .tm8Port s).extractLsb' 0 2 ∧
  (outputs s).tm8Scalar = (readReg .tm8Port s).extractLsb' 8 5 ∧
  (outputs s).tm8Bound = (readReg .tm8Port s).extractLsb' 16 8 ∧
  (outputs s).tm8Mode = (readReg .tm8Port s).getLsbD 24 ∧ (outputs s).tm8Depth = (readReg .tm8Port s).getLsbD 25 ∧
  (outputs s).tm8Run = (readReg .run s).getLsbD 1 ∧
  (outputs s).stpDir = (readReg .stpState s).getLsbD 5 ∧ (outputs s).stpEn = (readReg .stpState s).getLsbD 12 ∧
  (outputs s).stpOe = (readReg .stpState s).getLsbD 13

/-- The direction and enable pins carry `stp_dir` and `stp_en` while `stp_oe` = 1 and float otherwise, spec/10_state.md
R48. A floating pin has no level in the model (log entry 12). -/
abbrev PinsFollowOutputs (s : State) : Prop :=
  directionPin s = (if (outputs s).stpOe then some (outputs s).stpDir else none) ∧
  enablePin s = (if (outputs s).stpOe then some (outputs s).stpEn else none)

/-- The reset value of a register, spec/10_state.md R24. -/
def resetValue (r : Reg) : Word :=
  if r = .ctrl then 0x190 else if r = .clkPwm ∨ r = .clkTm8 then 4000000 else 0

/-- A command of the arithmetic unit that writes RES0 and RES1, spec/10_state.md R33. -/
def WritesArithmeticResults (i : Instr) : Prop :=
  ∃ a, i = .div8 a ∨ i = .div16 a ∨ i = .div24 a ∨ i = .div32 a ∨ i = .mul8 a ∨ i = .mul16 a

/-- A command that solves for a frequency, spec/10_state.md R27. -/
def SolvesFrequency (i : Instr) : Prop :=
  ∃ a, i = .pwmSolve a ∨ i = .pwmSolveDuty a ∨ i = .tm8Solve a ∨ i = .stpSetVel a

/-- A command that writes PWM_PORT and PWM_PDUTY where it succeeds, spec/10_state.md R39. -/
def WritesPwmPort (i : Instr) (src : Channel) : Prop :=
  i = .pwmSolve true ∨ i = .pwmSolveDuty true ∨ ((∃ a, i = .stpSetVel a) ∧ src = .pwm)

/-- A command that writes TM8_PORT where it succeeds, spec/10_state.md R40. -/
def WritesTm8Port (i : Instr) (src : Channel) : Prop :=
  i = .tm8Solve true ∨ i = .tm8Duty true ∨ ((∃ a, i = .stpSetVel a) ∧ src = .tm8)

/-- A command that ends a move, spec/43_stepper.md R198. -/
def EndsMotion (i : Instr) : Prop :=
  ∃ a, i = .stpInit a ∨ i = .stpStop a ∨ i = .stpDisable a ∨ i = .stpRelease a

/-- The commands other than the four solver opcodes, spec/30_encoding.md R94. -/
def notSolvers : List (Bool → Instr) :=
  [.nop, .div8, .div16, .div24, .div32, .mul8, .mul16, .stpInit, .stpEnable, .stpSetDir, .stpSetVel, .stpRun, .stpMove,
   .stpStop, .stpDisable, .stpRelease, .stpEvent]

/-- `n` steps of PPSB. -/
def runSteps : Nat → State → Host.Outcome State Fault Refusal :=
  Sys2Proof.core.run

end Sys2Proof.Claims

section
open Sys2Proof Sys2Proof.Machine Sys2Proof.Claims

/-! ### Encoding -/

/-- R91, R92, R95: decode and encode agree in both directions, over all words: a word decodes to a command exactly when it
is that command's encoding. -/
def Obligations.DecodeIsTheInverseOfEncode : Prop :=
  ∀ (w : Word) (i : Instr), decode w = .ok i ↔ encode i = w

/-- Words written out from R92, one of each family and each with both APPLY values in turn. -/
def Obligations.KnownWordsDecode : Prop :=
  decode 0x00000002#32 = .ok (.div16 false) ∧ decode 0x00000109#32 = .ok (.mul16 true) ∧
  decode 0x00000111#32 = .ok (.pwmSolveDuty true) ∧ decode 0x00000018#32 = .ok (.tm8Solve false) ∧
  decode 0x00000025#32 = .ok (.stpMove false) ∧ decode 0x0000000A#32 = .error .unassignedOpcode ∧
  decode 0x00000A01#32 = .error .reservedBits

/-- R96: every opcode outside the table is illegal, and completes with ILLEGAL and no other effect. -/
def Obligations.UnlistedOpcodeIsIllegal : Prop :=
  ∀ s : State, EngineNext s → s.engCmd.toNat % 256 ∉ opcodeTable →
    step s = .next (failed .illegal (entryTaken s))

/-! ### The step -/

/-- R95, R212: the engine's step performs the decoded command, on the state with the engine's own entry taken. -/
def Obligations.StepRunsTheDecodedCommand : Prop :=
  ∀ (s : State) (i : Instr), EngineNext s → decode s.engCmd = .ok i → step s = exec i (entryTaken s)

/-- R218: no error stops the block: every step of every state answers a next state. -/
def Obligations.EveryStepHasANextState : Prop :=
  ∀ s : State, ∃ t, step s = .next t

/-- R212, R213, R214: the engine's step ends its command, whatever its word is: BUSY falls and DONE is set, and either
no error is reported and ERR and ERRCODE stand, or only STATUS changes. -/
def Obligations.CompletionEndsEveryCommand : Prop :=
  ∀ s : State, EngineNext s → ∃ t, step s = .next t ∧ t.engBusy = false ∧ t.done = true ∧
    ((t.err = s.err ∧ t.errCode = s.errCode) ∨
     ∃ c, (c = .illegal ∨ c = .state ∨ c = .divz ∨ c = .config) ∧ t = failed c (entryTaken s))

/-- R212: while the engine is idle it has no step. -/
def Obligations.IdleEngineHasNoStep : Prop :=
  ∀ s : State, s.engBusy = false → (s.inputs = [] ∨ s.inputs.head? = some .engine) → step s = .next (entryTaken s)

/-! ### Arithmetic unit -/

/-- R111. -/
def Obligations.NopHasNoEffectButCompletion : Prop :=
  EncodedAs 0x00 Instr.nop ∧ ∀ (apply : Bool) (s : State), exec (.nop apply) s = .next (succeeded s)

/-- R113. -/
def Obligations.Div8GivesQuotientAndRemainder : Prop := DividesAt 8 0x01 Instr.div8

/-- R114. -/
def Obligations.Div16GivesQuotientAndRemainder : Prop := DividesAt 16 0x02 Instr.div16

/-- R115. -/
def Obligations.Div24GivesQuotientAndRemainder : Prop := DividesAt 24 0x03 Instr.div24

/-- R116. -/
def Obligations.Div32GivesQuotientAndRemainder : Prop := DividesAt 32 0x04 Instr.div32

/-- R120. -/
def Obligations.Mul8GivesTheExactProduct : Prop := MultipliesAt 8 0x08 Instr.mul8

/-- R121. -/
def Obligations.Mul16GivesTheExactProduct : Prop := MultipliesAt 16 0x09 Instr.mul16

/-- R112: the restoring long division gives the floor quotient and the remainder, and its fast path gives what its loop
would. -/
def Obligations.RestoringDivisionIsFloorDivision : Prop :=
  ∀ width n d : Nat, d ≠ 0 → n < 2 ^ width → d < 2 ^ width →
    divN width n d = (n / d, n % d) ∧ divLoop n d width 0 0 = (n / d, n % d)

/-- R118: both multiplier paths give the exact product. -/
def Obligations.MultiplierPathsGiveTheSameProduct : Prop :=
  ∀ width a b : Nat, width = 8 ∨ width = 16 → a < 2 ^ width → b < 2 ^ width →
    mulHW width a b = a * b ∧ mulSW width a b = a * b ∧ mulN width a b = a * b

/-- R33: no step but a reset and the completion of an arithmetic command changes RES0 or RES1. -/
def Obligations.OnlyArithmeticCommandsWriteResults : Prop :=
  ∀ s t : State, step s = .next t → ¬ ResetNext s →
    ¬ (EngineNext s ∧ ∃ i, decode s.engCmd = .ok i ∧ WritesArithmeticResults i) →
    t.res0 = s.res0 ∧ t.res1 = s.res1

/-! ### 11-bit PWM solver -/

/-- R138, for every calibration. Where the prose of R132 and R138 says otherwise than their pseudocode, a target above the
clock with HALVE_INC and a very small target without DOUBLE, the result is the model's choice (log entry 23). -/
def Obligations.PwmSolveWritesTheSolution : Prop :=
  EncodedAs 0x10 Instr.pwmSolve ∧
  ∀ (apply : Bool) (s : State), ∃ reg resid ratio fallback,
    IsPwmSolution s.snap.opa.toNat s.snap.clkPwm.toNat s.snap.ctrl.pwmCorr.toNat s.snap.ctrl.pwmOdd
      reg resid ratio fallback ∧
    exec (.pwmSolve apply) s = .next (succeeded { s with
      solve := reg, ratio := ratio, resid := resid, fallback := fallback
      pwmPort := if apply then reg else s.pwmPort })

/-- R139, for every calibration and every parity function (log entry 3). Where the prose says otherwise than the
pseudocode of R132, the result is the model's choice (log entry 23). -/
def Obligations.PwmSolveDutyWritesTheSolutionAndDuty : Prop :=
  EncodedAs 0x11 Instr.pwmSolveDuty ∧
  ∀ (apply : Bool) (s : State), ∃ reg resid ratio fallback,
    IsPwmSolution s.snap.opa.toNat s.snap.clkPwm.toNat s.snap.ctrl.pwmCorr.toNat s.snap.ctrl.pwmOdd
      reg resid ratio fallback ∧
    exec (.pwmSolveDuty apply) s = .next (succeeded { s with
      solve := reg, ratio := ratio, resid := resid, fallback := fallback
      duty := BitVec.ofNat 11 (dutyOf (s.snap.opb.toNat % 256) reg.bound.toNat s.snap.ctrl.dparEn)
      pwmPort := if apply then reg else s.pwmPort
      pwmPduty := if apply then
        BitVec.ofNat 11 (dutyOf (s.snap.opb.toNat % 256) reg.bound.toNat s.snap.ctrl.dparEn) else s.pwmPduty })

/-- R133: the boost loop divides the ratio by 4 for each boost, boosts only above the threshold, and stops at three. -/
def Obligations.BoostLoopStopsAtTheThreshold : Prop :=
  ∀ (threshold : Nat) (r : Word),
    (boost threshold r).2 = boostCount threshold r.toNat ∧
    (boost threshold r).1.toNat = r.toNat / 4 ^ boostCount threshold r.toNat

/-- R134: the scan of the 32 scalars finds the least remainder, the first scalar on a tie, and finds none only when
every scalar is rejected. -/
def Obligations.ScalarSearchFindsTheFirstLeastRemainder : Prop :=
  ∀ (odd : Bool) (r : Nat),
    (∀ c, scalarSearch odd r = some c ↔
      BestScalar odd r c.scalar ∧ c.quotient = r / c.scalar ∧ c.remainder = r % c.scalar) ∧
    (scalarSearch odd r = none ↔ NoScalar odd r)

/-- R137: the duty is the percentage of the period rounded to nearest, a tie up, at most the counter register, with
whatever parity function stands in between when DPAR_EN = 1. -/
def Obligations.PwmDutyIsRoundedAndClamped : Prop :=
  ∀ (percent : Nat) (cr : BitVec 11) (dpar : Bool),
    (pwmDuty percent cr dpar).toNat = dutyOf percent cr.toNat dpar ∧ (pwmDuty percent cr dpar).toNat ≤ cr.toNat

/-- R141: with the odd counter enforced, every solution is a valid configuration with an even counter register, and 1 Hz
against 4 MHz gives the slowest one under the reset correction DOUBLE, to which the model reads that case (log entry 23). -/
def Obligations.OddSolutionsAreValidConfigurations : Prop :=
  (∀ (t clk : Word) (cm : BitVec 2),
    (pwmSolve t clk cm true).reg.bound.toNat ≤ 2046 ∧ (pwmSolve t clk cm true).reg.bound.toNat % 2 = 0 ∧
    ((pwmSolve t clk cm true).fallback = false → (pwmSolve t clk cm true).resid.toNat ≤ 31) ∧
    ((pwmSolve t clk cm true).fallback = true → (pwmSolve t clk cm true).resid = 0xFFFFFFFF)) ∧
  pwmSolve 1 4000000 1 true =
    { reg := { psc := 3, scalar := 31, bound := 2046 }, resid := 0xFFFFFFFF, fallback := true, ratio := 125000 }

/-! ### 8-bit timer solver -/

/-- R156, by the closed form of R159. For a ratio of 8193 to 8223 after three boosts the result rests on the model's
reading of R153, R154 and R159 (log entry 21). -/
def Obligations.Tm8SolveWritesTheSolution : Prop :=
  EncodedAs 0x18 Instr.tm8Solve ∧
  ∀ (apply : Bool) (s : State), ∃ psc scalar bound resid ratio fallback,
    IsTm8Solution s.snap.opa.toNat s.snap.clkTm8.toNat s.snap.ctrl.tm8Corr.toNat psc scalar bound resid ratio fallback ∧
    exec (.tm8Solve apply) s = .next (succeeded { s with
      solve := { psc := psc, scalar := scalar, bound := bound.zeroExtend 11 }
      ratio := ratio, resid := resid, fallback := fallback
      tm8Port := if apply then
        { psc := psc, scalar := scalar, bound := bound, mode := .period, depth := s.tm8Port.depth } else s.tm8Port })

/-- R157. -/
def Obligations.Tm8DutyWritesTheBound : Prop :=
  EncodedAs 0x19 Instr.tm8Duty ∧
  ∀ (apply : Bool) (s : State), exec (.tm8Duty apply) s = .next (succeeded { s with
    solve := { psc := s.solve.psc, scalar := s.solve.scalar
               bound := BitVec.ofNat 11 (tm8DutyBound (s.snap.opb.toNat % 256) s.snap.ctrl.tm8Depth) }
    tm8Port := if apply then
      { psc := s.tm8Port.psc, scalar := s.tm8Port.scalar
        bound := BitVec.ofNat 8 (tm8DutyBound (s.snap.opb.toNat % 256) s.snap.ctrl.tm8Depth)
        mode := .pwm, depth := s.snap.ctrl.tm8Depth } else s.tm8Port })

/-- R159: the nested tolerance search equals the closed form: the least remainder over the bounds in range, at the
largest bound that has it, if it is at most 31. -/
def Obligations.ToleranceSearchEqualsItsClosedForm : Prop :=
  ∀ r : Nat,
    (∀ tol bd, toleranceSearch r = some (tol, bd) ↔ BestBound r bd ∧ tol = r % (bd + 1)) ∧
    (toleranceSearch r = none ↔ NoBound r)

/-- R27: FALLBACK is written only by the completion of a frequency solve that reaches its solve, and says whether the
solver took its fallback, which RESID marks. -/
def Obligations.OnlyFrequencySolvesWriteFallback : Prop :=
  (∀ s t : State, step s = .next t → ¬ ResetNext s →
    ¬ (EngineNext s ∧ ∃ i, decode s.engCmd = .ok i ∧ SolvesFrequency i) → t.fallback = s.fallback) ∧
  (∀ (i : Instr) (s t : State), exec i s = .next t → SolvesFrequency i →
    (∃ c, t = failed c s ∧ t.fallback = s.fallback) ∨ (t.fallback = true ↔ t.resid = 0xFFFFFFFF))

/-- R94, R39, R40: with APPLY a solver copies its results to its channel's port, without it the ports stand; a
successful STP_SET_VEL copies to the bound source's port whatever APPLY is; no command but the four solvers looks at
APPLY; and of all steps only those commands and a reset change a port. -/
def Obligations.ApplyCopiesTheResultsToThePort : Prop :=
  (∀ (apply : Bool) (s t : State),
    (exec (.pwmSolve apply) s = .next t →
      t.pwmPort = (if apply then t.solve else s.pwmPort) ∧ t.pwmPduty = s.pwmPduty ∧ t.tm8Port = s.tm8Port) ∧
    (exec (.pwmSolveDuty apply) s = .next t →
      t.pwmPort = (if apply then t.solve else s.pwmPort) ∧
      t.pwmPduty = (if apply then t.duty else s.pwmPduty) ∧ t.tm8Port = s.tm8Port) ∧
    (exec (.tm8Solve apply) s = .next t →
      t.tm8Port = (if apply then { psc := t.solve.psc, scalar := t.solve.scalar, bound := t.solve.bound.truncate 8,
                                   mode := .period, depth := s.tm8Port.depth } else s.tm8Port) ∧
      t.pwmPort = s.pwmPort ∧ t.pwmPduty = s.pwmPduty) ∧
    (exec (.tm8Duty apply) s = .next t →
      t.tm8Port = (if apply then { psc := s.tm8Port.psc, scalar := s.tm8Port.scalar,
                                   bound := t.solve.bound.truncate 8, mode := .pwm, depth := s.snap.ctrl.tm8Depth }
                   else s.tm8Port) ∧
      t.pwmPort = s.pwmPort ∧ t.pwmPduty = s.pwmPduty) ∧
    (exec (.stpSetVel apply) s = .next t → (∃ c, t = failed c s) ∨
      (s.stp.src = .pwm ∧ t.pwmPort = t.solve ∧ t.pwmPduty = t.duty ∧ t.tm8Port = s.tm8Port) ∨
      (s.stp.src = .tm8 ∧ t.pwmPort = s.pwmPort ∧ t.pwmPduty = s.pwmPduty ∧
        t.tm8Port = { psc := t.solve.psc, scalar := t.solve.scalar, bound := t.solve.bound.truncate 8,
                      mode := .period, depth := s.tm8Port.depth })) ∧
    (∀ command ∈ notSolvers, exec (command apply) s = exec (command !apply) s)) ∧
  (∀ s t : State, step s = .next t → ¬ ResetNext s →
    (¬ (EngineNext s ∧ ∃ i, decode s.engCmd = .ok i ∧ WritesPwmPort i s.stp.src) →
      t.pwmPort = s.pwmPort ∧ t.pwmPduty = s.pwmPduty) ∧
    (¬ (EngineNext s ∧ ∃ i, decode s.engCmd = .ok i ∧ WritesTm8Port i s.stp.src) → t.tm8Port = s.tm8Port))

/-! ### Stepper -/

/-- R175: the run bits that are cleared are those of the source bound before, unless UNINIT, and of the source bound now;
the other bit, where these two are one source or nothing was bound, keeps its value. -/
def Obligations.StpInitBindsAndStopsTheOldAndTheNewSource : Prop :=
  EncodedAs 0x20 Instr.stpInit ∧
  ∀ (apply : Bool) (s : State) (sel : Channel), sel = (if s.snap.opa.toNat % 2 = 1 then .tm8 else .pwm) →
    exec (.stpInit apply) s = .next (succeeded { motionCleared s with
      pwmRun := if sel = .pwm ∨ (s.stp.mode ≠ .uninit ∧ s.stp.src = .pwm) then false else s.pwmRun
      tm8Run := if sel = .tm8 ∨ (s.stp.mode ≠ .uninit ∧ s.stp.src = .tm8) then false else s.tm8Run
      stp := { mode := .idle, src := sel, dir := false, distMode := false, isMoving := false, armed := false,
               periodState := false, pinEn := false, pinOe := true } })

/-- R176. -/
def Obligations.StpEnableLeavesIdle : Prop :=
  EncodedAs 0x21 Instr.stpEnable ∧
  ∀ (apply : Bool) (s : State),
    (s.stp.mode = .uninit → exec (.stpEnable apply) s = .next (failed .state s)) ∧
    (s.stp.mode = .idle → exec (.stpEnable apply) s =
      .next (succeeded { s with stp := { s.stp with pinEn := true, mode := .enabled } })) ∧
    (s.stp.mode ≠ .uninit → s.stp.mode ≠ .idle → exec (.stpEnable apply) s = .next (succeeded s))

/-- R177. -/
def Obligations.StpSetDirWritesTheDirection : Prop :=
  EncodedAs 0x22 Instr.stpSetDir ∧
  ∀ (apply : Bool) (s : State),
    (s.stp.mode = .uninit → exec (.stpSetDir apply) s = .next (failed .state s)) ∧
    (s.stp.mode ≠ .uninit → exec (.stpSetDir apply) s =
      .next (succeeded { s with stp := { s.stp with dir := s.snap.opa.toNat % 2 == 1 } }))

/-- R178, with R173 for the target frequency: STATE, then DIVZ, else the bound source's solve with its port written. For
the timer, and a ratio of 8193 to 8223 after three boosts, the result rests on the model's reading (log entry 21); for the
PWM channel so do the cases of log entry 23. -/
def Obligations.StpSetVelSolvesForTheBoundSource : Prop :=
  EncodedAs 0x23 Instr.stpSetVel ∧
  ∀ (apply : Bool) (s : State) (tf : Nat),
    tf = pulseFrequency (s.snap.opa.toNat % 65536) s.snap.stpSpr.toNat s.snap.stpUpr.toNat →
    (s.stp.mode = .uninit → exec (.stpSetVel apply) s = .next (failed .state s)) ∧
    (s.stp.mode ≠ .uninit → s.snap.stpUpr = 0 → exec (.stpSetVel apply) s = .next (failed .divz s)) ∧
    (s.stp.mode ≠ .uninit → s.snap.stpUpr ≠ 0 → s.stp.src = .pwm → ∃ reg resid ratio fallback,
      IsPwmSolution tf s.snap.clkPwm.toNat s.snap.ctrl.pwmCorr.toNat s.snap.ctrl.pwmOdd reg resid ratio fallback ∧
      exec (.stpSetVel apply) s = .next (succeeded { s with
        stpTfreq := BitVec.ofNat 32 tf
        solve := reg, ratio := ratio, resid := resid, fallback := fallback
        duty := BitVec.ofNat 11 (dutyOf 50 reg.bound.toNat s.snap.ctrl.dparEn)
        pwmPort := reg
        pwmPduty := BitVec.ofNat 11 (dutyOf 50 reg.bound.toNat s.snap.ctrl.dparEn) })) ∧
    (s.stp.mode ≠ .uninit → s.snap.stpUpr ≠ 0 → s.stp.src = .tm8 → ∃ psc scalar bound resid ratio fallback,
      IsTm8Solution tf s.snap.clkTm8.toNat s.snap.ctrl.tm8Corr.toNat psc scalar bound resid ratio fallback ∧
      exec (.stpSetVel apply) s = .next (succeeded { s with
        stpTfreq := BitVec.ofNat 32 tf
        solve := { psc := psc, scalar := scalar, bound := bound.zeroExtend 11 }
        ratio := ratio, resid := resid, fallback := fallback
        tm8Port := { psc := psc, scalar := scalar, bound := bound, mode := .period, depth := s.tm8Port.depth } }))

/-- R180. -/
def Obligations.StpRunStartsContinuousMotion : Prop :=
  EncodedAs 0x24 Instr.stpRun ∧
  ∀ (apply : Bool) (s : State),
    (¬ Startable s → exec (.stpRun apply) s = .next (failed .state s)) ∧
    (Startable s → exec (.stpRun apply) s = .next (succeeded { motionCleared (sourceRun true s) with
      stp := { (motionCleared s).stp with isMoving := true, mode := .movingCont } }))

/-- R181 and R182: the checks in order, the plan of R174, and a zero-length move that ends at once. -/
def Obligations.StpMoveStartsAPlannedMove : Prop :=
  EncodedAs 0x25 Instr.stpMove ∧
  ∀ (apply : Bool) (s : State) (revs fin : Nat),
    revs = s.snap.opa.toNat % 65536 / s.snap.stpUpr.toNat →
    fin = s.snap.opa.toNat % 65536 % s.snap.stpUpr.toNat * s.snap.stpSpr.toNat / s.snap.stpUpr.toNat →
    (¬ Startable s → exec (.stpMove apply) s = .next (failed .state s)) ∧
    (Startable s → s.snap.stpUpr = 0 → exec (.stpMove apply) s = .next (failed .divz s)) ∧
    (Startable s → s.snap.stpUpr ≠ 0 → s.snap.stpSpr = 0 → exec (.stpMove apply) s = .next (failed .config s)) ∧
    (Startable s → s.snap.stpUpr ≠ 0 → s.snap.stpSpr ≠ 0 → revs = 0 → fin = 0 →
      exec (.stpMove apply) s = .next (succeeded { motionCleared s with
        moveDone := true, stp := { (motionCleared s).stp with mode := .stopped } })) ∧
    (Startable s → s.snap.stpUpr ≠ 0 → s.snap.stpSpr ≠ 0 → (revs ≠ 0 ∨ fin ≠ 0) →
      exec (.stpMove apply) s = .next (succeeded { sourceRun true s with
        stpRevs := BitVec.ofNat 16 revs, stpFinal := BitVec.ofNat 16 fin, stpCur := 0, stpMspr := s.snap.stpSpr
        stp := { s.stp with distMode := true, armed := true, isMoving := true, periodState := false,
                            mode := .movingDist } }))

/-- R183. -/
def Obligations.StpStopStopsTheMotion : Prop :=
  EncodedAs 0x26 Instr.stpStop ∧
  ∀ (apply : Bool) (s : State),
    (s.stp.mode = .uninit → exec (.stpStop apply) s = .next (succeeded s)) ∧
    (s.stp.mode = .movingCont ∨ s.stp.mode = .movingDist → exec (.stpStop apply) s =
      .next (succeeded { motionCleared (sourceRun false s) with
        stp := { (motionCleared s).stp with mode := .stopped } })) ∧
    (s.stp.mode = .idle ∨ s.stp.mode = .enabled ∨ s.stp.mode = .stopped → exec (.stpStop apply) s =
      .next (succeeded (motionCleared (sourceRun false s))))

/-- R184. -/
def Obligations.StpDisableGoesToIdle : Prop :=
  EncodedAs 0x27 Instr.stpDisable ∧
  ∀ (apply : Bool) (s : State),
    (s.stp.mode = .uninit → exec (.stpDisable apply) s = .next (succeeded s)) ∧
    (s.stp.mode ≠ .uninit → exec (.stpDisable apply) s =
      .next (succeeded { motionCleared (sourceRun false s) with
        stp := { (motionCleared s).stp with pinEn := false, mode := .idle } }))

/-- R185. -/
def Obligations.StpReleaseUnbindsAndFloatsThePins : Prop :=
  EncodedAs 0x28 Instr.stpRelease ∧
  ∀ (apply : Bool) (s : State),
    (s.stp.mode = .uninit → exec (.stpRelease apply) s = .next (succeeded s)) ∧
    (s.stp.mode ≠ .uninit → exec (.stpRelease apply) s =
      .next (succeeded { motionCleared (sourceRun false s) with stp := State.reset.stp }))

/-- R186. -/
def Obligations.StpEventAppliesOneEventOfTheBoundSource : Prop :=
  EncodedAs 0x29 Instr.stpEvent ∧
  ∀ (apply : Bool) (s : State), exec (.stpEvent apply) s = .next (succeeded (eventTaken s.stp.src s))

/-- R196, R197: what a pulse on either event input does, in its own step, and an STP_EVENT in its completion. -/
def Obligations.PulseIsOneStepEvent : Prop :=
  (∀ (s : State) (ch : Channel), s.rst = false → s.inputs.head? = some (pulseOf ch) →
    step s = .next (eventTaken ch (entryTaken s))) ∧
  (∀ (s : State) (apply : Bool), EngineNext s → decode s.engCmd = .ok (.stpEvent apply) →
    step s = .next (succeeded (eventTaken s.stp.src (entryTaken s))))

/-- R199: an event in another state than MOVING_DIST, or of a channel that is not bound, changes nothing. An STP_EVENT
is of the bound channel; it then only completes. -/
def Obligations.IgnoredEventsChangeNothing : Prop :=
  (∀ (s : State) (ch : Channel), s.inputs.head? = some (pulseOf ch) →
    s.stp.mode ≠ .movingDist ∨ ch ≠ s.stp.src → step s = .next (entryTaken s)) ∧
  (∀ (s : State) (apply : Bool), s.stp.mode ≠ .movingDist → exec (.stpEvent apply) s = .next (succeeded s))

/-- R173, with the bound that keeps the product within 32 bits. -/
def Obligations.VelocityConvertsToFrequency : Prop :=
  ∀ v spr upr : Nat, v < 65536 → spr < 65536 → upr < 65536 → upr ≠ 0 →
    v * spr < 2 ^ 32 ∧ velToFreq v spr upr = pulseFrequency v spr upr ∧ 1 ≤ velToFreq v spr upr ∧ velToFreq v spr upr < 2 ^ 32

/-- R174. -/
def Obligations.PlanMoveSplitsTheDistance : Prop :=
  ∀ dist spr upr : Nat, dist < 65536 → spr < 65536 → upr < 65536 → upr ≠ 0 → spr ≠ 0 →
    planMove dist spr upr = (dist / upr, dist % upr * spr / upr) ∧ (planMove dist spr upr).2 < spr

/-- R187: a second STP_STOP, STP_DISABLE or STP_RELEASE leaves the state that the first one left. -/
def Obligations.TeardownIsIdempotent : Prop :=
  ∀ (a b : Bool) (s t : State),
    (exec (.stpStop a) s = .next t → exec (.stpStop b) t = .next t) ∧
    (exec (.stpDisable a) s = .next t → exec (.stpDisable b) t = .next t) ∧
    (exec (.stpRelease a) s = .next t → exec (.stpRelease b) t = .next t) ∧
    (∃ u, exec (.stpStop a) s = .next u ∧ u.err = s.err ∧ u.errCode = s.errCode) ∧
    (∃ u, exec (.stpDisable a) s = .next u ∧ u.err = s.err ∧ u.errCode = s.errCode) ∧
    (∃ u, exec (.stpRelease a) s = .next u ∧ u.err = s.err ∧ u.errCode = s.errCode)

/-- R198: a move that STP_MOVE starts goes on for every pulse of the bound source but the last, and ends at the last: its
number of pulses is revs * spr + fin, twice that for the 8-bit timer. -/
def Obligations.MoveEndsAfterExactlyItsPulses : Prop :=
  ∀ (apply : Bool) (s : State) (k revs fin pulses : Nat) (rest : List Input),
    s.rst = false → Startable s → s.snap.stpUpr ≠ 0 → s.snap.stpSpr ≠ 0 →
    revs = s.snap.opa.toNat % 65536 / s.snap.stpUpr.toNat →
    fin = s.snap.opa.toNat % 65536 % s.snap.stpUpr.toNat * s.snap.stpSpr.toNat / s.snap.stpUpr.toNat →
    revs ≠ 0 ∨ fin ≠ 0 →
    pulses = (if s.stp.src = .tm8 then 2 else 1) * (revs * s.snap.stpSpr.toNat + fin) →
    s.inputs = List.replicate k (pulseOf s.stp.src) ++ rest →
    ∃ t, exec (.stpMove apply) s = .next t ∧
      (k < pulses → ∃ u, runSteps k t = .next u ∧ u.stp.mode = .movingDist ∧ u.moveDone = s.moveDone ∧
        u.stpRevs.toNat ≤ revs ∧ pulsesLeft u = pulses - k) ∧
      (k = pulses → ∃ u, runSteps k t = .next u ∧ u.stp.mode = .stopped ∧ u.stp.isMoving = false ∧
        u.moveDone = true)

/-- R43, R176 to R178, R180, R181, R197, R198: what can touch a move in progress: a pulse of its source; a completed
STP_INIT, STP_STOP, STP_DISABLE or STP_RELEASE, which ends it; a completed STP_EVENT, which injects an event; a completed
STP_SET_DIR, which writes DIR; and a reset. Every other step leaves STP_STATE and the four counters as they are. -/
def Obligations.OnlyEventsInitTeardownSetDirAndResetTouchAMove : Prop :=
  ∀ s t : State, s.stp.mode = .movingDist → step s = .next t → ¬ ResetNext s →
    s.inputs.head? ≠ some (pulseOf s.stp.src) →
    ¬ (EngineNext s ∧ ∃ i, decode s.engCmd = .ok i ∧
      (EndsMotion i ∨ ∃ a, i = .stpEvent a ∨ i = .stpSetDir a)) →
    t.stp = s.stp ∧ t.stpRevs = s.stpRevs ∧ t.stpCur = s.stpCur ∧ t.stpFinal = s.stpFinal ∧ t.stpMspr = s.stpMspr

/-! ### Invariants -/

/-- The invariant holds in the reset state (R241 for R45's part of it). The clauses beside R45's are the model's own
(log entry 17). -/
def Obligations.ResetStateSatisfiesTheInvariant : Prop := Invariant State.reset

/-- Every step of every state that has the invariant keeps it. Its first part is R45; the others are the model's own
(log entry 17). -/
def Obligations.EveryStepKeepsTheInvariant : Prop :=
  ∀ s t : State, Invariant s → step s = .next t → Invariant t

/-- R45: its invariants hold in every state that any schedule of the agents reaches from reset. -/
def Obligations.ReachableStatesSatisfyTheStepperInvariants : Prop :=
  ∀ (schedule : List Input) (n : Nat), ∃ t,
    runSteps n { State.reset with inputs := schedule } = .next t ∧ StepperInvariant t

/-! ### The window -/

/-- R72: a word read of a register gives the register, and narrower reads give its bytes, low byte at the low offset. -/
def Obligations.ReadsAreLittleEndian : Prop :=
  ∀ (s : State) (r : Reg) (j : Nat), j < 4 →
    windowByte (r.offset + j) s = byteAt (readReg r s) j ∧
    readWindow r.offset .word s = readReg r s ∧
    (j % 2 = 0 → (readWindow (r.offset + j) .half s).toNat = (readReg r s).toNat / 2 ^ (8 * j) % 65536) ∧
    (readWindow (r.offset + j) .byte s).toNat = (readReg r s).toNat / 2 ^ (8 * j) % 256

/-- R72, R73, R23: an aligned write of any width to a read-write register puts the low bytes of its value at its
offsets, reserved bits reading 0; every other byte of the window reads as before, and only the fields that hold host
registers can change. STATUS.IRQ shows CTRL's enables live (R48), so for CTRL the window is taken from CTRL on and the
frame speaks of STATUS. A write to a read-only register is ignored without an error. -/
def Obligations.WritesAreLittleEndianAndTouchOnlyTheirBytes : Prop :=
  ∀ (s : State) (r : Reg) (j : Nat) (n : AccessSize) (v : Word), j < 4 → j % n.bytes = 0 →
    (PlainReadWrite r → ∀ t, t = hostWrite ((r.offset + j : Nat) : Int) n v s →
      (∀ o, o < 128 → (r = .ctrl → 4 ≤ o) → windowByte o t =
        if r.offset + j ≤ o ∧ o < r.offset + j + n.bytes then
          byteAt v (o - (r.offset + j)) &&& byteAt (namedBits r) (o - r.offset)
        else windowByte o s) ∧
      t = { s with
        ctrl := t.ctrl, opa := t.opa, opb := t.opb, clkPwm := t.clkPwm, clkTm8 := t.clkTm8
        pwmRun := t.pwmRun, tm8Run := t.tm8Run, stpUpr := t.stpUpr, stpSpr := t.stpSpr }) ∧
    (ReadOnly r → hostWrite ((r.offset + j : Nat) : Int) n v s = s)

/-- R24, R75: the reserved bits of every register read zero and ignore writes: a write of any width has the effect of the
same write with the reserved bits cleared. A word written to CTRL, RUN, STP_UPR or STP_SPR reads back so. -/
def Obligations.ReservedBitsReadZeroAndIgnoreWrites : Prop :=
  (∀ (s : State) (r : Reg), readReg r s &&& ~~~ namedBits r = 0) ∧
  (∀ (s : State) (r : Reg) (j : Nat) (n : AccessSize) (v : Word), j < 4 → j % n.bytes = 0 →
    hostWrite ((r.offset + j : Nat) : Int) n v s =
      hostWrite ((r.offset + j : Nat) : Int) n (v &&& (namedBits r >>> (8 * j))) s) ∧
  (∀ (s : State) (v : Word),
    readReg .ctrl (hostWrite 0x04 .word v s) = v &&& 0x7F7 ∧
    readReg .run (hostWrite 0x34 .word v s) = v &&& 0x3 ∧
    readReg .stpUpr (hostWrite 0x44 .word v s) = v &&& 0xFFFF ∧
    readReg .stpSpr (hostWrite 0x48 .word v s) = v &&& 0xFFFF)

/-- R75: an aligned access at a reserved offset reads 0, is ignored on write, and raises no error. A misaligned one is in
the next statement. -/
def Obligations.ReservedOffsetsAreInert : Prop :=
  ∀ (s : State) (o : Nat) (n : AccessSize) (v : Word), 0x64 ≤ o → o < 0x80 → o % n.bytes = 0 →
    hostWrite (o : Int) n v s = s ∧ hostRead (o : Int) n s = { s with readData := 0 }

/-- R74: a misaligned access sets ERR and ERRCODE 6 and does nothing else; a read returns 0. That it does so at a reserved
offset too, where R75 says that no error is raised, is the model's choice (log entry 20). -/
def Obligations.MisalignedAccessReportsBus : Prop :=
  ∀ (s : State) (o : Nat) (n : AccessSize) (v : Word), o < 128 → o % n.bytes ≠ 0 →
    hostRead (o : Int) n s = { s with err := true, errCode := .bus, readData := 0 } ∧
    hostWrite (o : Int) n v s = { s with err := true, errCode := .bus }

/-- R20, R71, R76, R78: with `rst` released, a host access takes effect whole in its own step; an access outside the
window has no effect on PPSB, and an aligned read inside it changes nothing but the value returned. -/
def Obligations.HostAccessesAreStepsAndReadsHaveNoSideEffect : Prop :=
  ∀ (s : State) (off : Int) (n : AccessSize) (v : Word),
    (s.rst = false → s.inputs.head? = some (.hostRead off n) → step s = .next (hostRead off n (entryTaken s))) ∧
    (s.rst = false → s.inputs.head? = some (.hostWrite off n v) → step s = .next (hostWrite off n v (entryTaken s))) ∧
    (off < 0 ∨ 128 ≤ off → hostRead off n s = s ∧ hostWrite off n v s = s) ∧
    (0 ≤ off → off < 128 → off.toNat % n.bytes = 0 →
      hostRead off n s = { s with readData := readWindow off.toNat n s })

/-- R90: a write that covers byte 0 of CMD stores its bytes, and then issues the resulting word with a snapshot, or is
rejected with BUSY while a command runs. R73: a write that covers only bytes 1 to 3 stores those bytes and issues
nothing. -/
def Obligations.WritingCmdIssuesOrIsRejected : Prop :=
  (∀ (s : State) (n : AccessSize) (v : Word), ∃ w, BytesReplaced s.cmd 0 n v w ∧
    (s.engBusy = true → hostWrite 0x08 n v s = { s with cmd := w, err := true, errCode := .busy }) ∧
    (s.engBusy = false → hostWrite 0x08 n v s = { s with
      cmd := w, engBusy := true, engCmd := w
      snap := { ctrl := s.ctrl, opa := s.opa, opb := s.opb, clkPwm := s.clkPwm, clkTm8 := s.clkTm8,
                stpUpr := s.stpUpr, stpSpr := s.stpSpr } })) ∧
  (∀ (s : State) (j : Nat) (n : AccessSize) (v : Word), 1 ≤ j → j < 4 → j % n.bytes = 0 →
    ∃ w, BytesReplaced s.cmd j n v w ∧ hostWrite ((0x08 + j : Nat) : Int) n v s = { s with cmd := w })

/-- R26: writing 1 clears DONE, ERR with ERRCODE, and MOVE_DONE; nothing else of STATUS takes a written value, and a write
that does not cover byte 0 changes nothing. -/
def Obligations.StatusFlagsAreClearedByWritingOne : Prop :=
  ∀ (s : State) (n : AccessSize) (v : Word),
    hostWrite 0x00 n v s = { s with
      done := if v.toNat / 2 % 2 = 1 then false else s.done
      err := if v.toNat / 4 % 2 = 1 then false else s.err
      errCode := if v.toNat / 4 % 2 = 1 then .none else s.errCode
      moveDone := if v.toNat / 8 % 2 = 1 then false else s.moveDone } ∧
    (∀ o : Nat, 1 ≤ o → o < 4 → o % n.bytes = 0 → hostWrite (o : Int) n v s = s)

/-- R244: a write to a register that commands read through the snapshot does not change the command that is running:
completing it and writing commute. -/
def Obligations.SnapshottedRegistersMayBeOverwritten : Prop :=
  ∀ (i : Instr) (s : State) (r : Reg) (j : Nat) (n : AccessSize) (v : Word), Snapshotted r →
    ∃ t, exec i s = .next t ∧ exec i (writeReg r j n v s) = .next (writeReg r j n v t)

/-- R249, R38: a host write that covers byte 0 of RUN changes the run bits and nothing else; one that covers only bytes 1
to 3 changes nothing. -/
def Obligations.WritingRunChangesOnlyTheRunBits : Prop :=
  ∀ (s : State) (n : AccessSize) (v : Word),
    hostWrite 0x34 n v s = { s with pwmRun := v.toNat % 2 == 1, tm8Run := v.toNat / 2 % 2 == 1 } ∧
    (∀ j : Nat, 1 ≤ j → j < 4 → j % n.bytes = 0 → hostWrite ((0x34 + j : Nat) : Int) n v s = s)

/-! ### Status, interrupt output and reset -/

/-- R25, R28, R31 to R44, R210: the place of every field in its register, with the numbers of ERRCODE and STATE; R48: every
output by the register bits that drive it, the two pins, and when `irq` is asserted. -/
def Obligations.RegistersAndOutputsShowTheirFields : Prop :=
  ∀ s : State,
    StatusLayout s ∧ CtrlLayout s ∧ SolverLayouts s ∧ StepperLayouts s ∧ WordLayouts s ∧
    OutputsFollowRegisters s ∧ PinsFollowOutputs s ∧
    ((outputs s).irq = true ↔
      (s.done = true ∧ s.ctrl.ieDone = true) ∨ (s.err = true ∧ s.ctrl.ieErr = true) ∨
      (s.moveDone = true ∧ s.ctrl.ieMove = true))

/-- R240: asserting `rst` gives every register its reset value and discards the command; while it is asserted every other
input is ignored and a read returns 0; its release leaves the reset state. That a misaligned access is ignored too, and
does not report BUS, is the model's reading (log entry 11). -/
def Obligations.ResetGivesEveryRegisterItsResetValue : Prop :=
  (∀ s : State, s.inputs.head? = some .rstAssert → ∃ t, step s = .next t ∧
    (∀ r, readReg r t = resetValue r) ∧ t.engBusy = false ∧ t.engCmd = 0 ∧ t.rst = true ∧
    (outputs t).irq = false ∧ (outputs t).pwmRun = false ∧ (outputs t).tm8Run = false ∧
    (outputs t).stpOe = false ∧ (outputs t).stpEn = false) ∧
  (∀ s : State, s.rst = true → ¬ ResetNext s →
    (∀ (off : Int) (n : AccessSize), s.inputs.head? = some (.hostRead off n) → 0 ≤ off → off < 128 →
      step s = .next { entryTaken s with readData := 0 }) ∧
    ((∀ (off : Int) (n : AccessSize), s.inputs.head? = some (.hostRead off n) → off < 0 ∨ 128 ≤ off) →
      step s = .next (entryTaken s))) ∧
  (∀ s : State, s.rst = true → s.inputs.head? = some .rstRelease → ∃ t, step s = .next t ∧
    (∀ r, readReg r t = resetValue r) ∧ t.engBusy = false ∧ t.engCmd = 0 ∧ t.rst = false)

end
end

