-- ==== Sys2Proof/Laws/Ops.lean ====
section
/-! SUPPORT. One lemma per shared operation of the commands: everything it can do, said once. -/

namespace Sys2Proof.Machine

/-! ### Issuing and ending a command -/

/-- An idle engine takes the command in CMD with a snapshot (spec/30_encoding.md R90). -/
theorem issue_idle {s : State} (h : s.engBusy = false) :
    issue s = { s with engBusy := true, engCmd := s.cmd, snap := takeSnapshot s } := by simp [issue, h]

/-- A busy engine rejects it with BUSY and goes on (spec/30_encoding.md R90). -/
theorem issue_busy {s : State} (h : s.engBusy = true) : issue s = { s with err := true, errCode := .busy } := by
  simp [issue, h, setError]

/-! ### Arithmetic -/

theorem divN_of_lt {width n d : Nat} (h : n < d) : divN width n d = (0, n) := by simp [divN, h]

theorem divN_of_le {width n d : Nat} (h : d ≤ n) : divN width n d = divLoop n d width 0 0 := by
  simp [divN, not_lt.2 h]

/-- One iteration of the restoring division (spec/40_arith.md R112). -/
theorem divLoop_succ (n d i q r : Nat) :
    divLoop n d (i + 1) q r =
      if (r <<< 1 ||| (n >>> i) % 2) ≥ d then
        divLoop n d i (q ||| 1 <<< i) ((r <<< 1 ||| (n >>> i) % 2) - d)
      else divLoop n d i q (r <<< 1 ||| (n >>> i) % 2) := rfl

theorem byteOf_zero (a : Nat) : byteOf a 0 = a % 256 := by simp [byteOf]

theorem byteOf_one (a : Nat) : byteOf a 1 = a / 256 % 256 := by simp [byteOf, Nat.shiftRight_eq_div_pow]

theorem mulHW_8 (a b : Nat) : mulHW 8 a b = 0 + (byteOf a 0 * byteOf b 0) <<< 0 := rfl

/-- The four partial products of the 16-bit multiply (spec/40_arith.md R118). -/
theorem mulHW_16 (a b : Nat) :
    mulHW 16 a b = 0 + (byteOf a 0 * byteOf b 0) <<< 0 + (byteOf a 0 * byteOf b 1) <<< 8 +
      (byteOf a 1 * byteOf b 0) <<< 8 + (byteOf a 1 * byteOf b 1) <<< 16 := rfl

/-- One iteration of the software multiply (spec/40_arith.md R118). -/
theorem mulSWLoop_succ (width a b k i acc : Nat) :
    mulSWLoop width a b (k + 1) i acc =
      mulSWLoop width a b k (i + 1) ((if a.testBit i then acc + b <<< width else acc) >>> 1) := rfl

/-- A divide reports DIVZ or writes RES0 and RES1 (spec/40_arith.md R113 to R117). -/
theorem divide_cases (width : Nat) (s : State) :
    (opbField width s = 0 ∧ divide width s = raiseError .divz s) ∨
    (opbField width s ≠ 0 ∧ divide width s = complete { s with
      res0 := BitVec.ofNat 32 (divN width (opaField width s) (opbField width s)).1
      res1 := BitVec.ofNat 32 (divN width (opaField width s) (opbField width s)).2 }) := by
  unfold divide
  split
  · exact .inl ⟨by assumption, rfl⟩
  · exact .inr ⟨by assumption, rfl⟩

/-! ### Solvers -/

/-- The target of a solve is never 0, so no solver divides by 0 (spec/41_pwm11.md R131, spec/42_tm8.md R151). -/
theorem defaultTarget_ne_zero (t clk : Word) : defaultTarget t clk ≠ 0 := by
  unfold defaultTarget
  split_ifs with h1 h2
  · decide
  · exact h2
  · exact h1

/-- One boost (spec/41_pwm11.md R133, spec/42_tm8.md R152). -/
theorem boostLoop_succ (threshold left : Nat) (r : Word) (b : Nat) :
    boostLoop threshold (left + 1) r b =
      if r.toNat > threshold then boostLoop threshold left (r >>> 2) (b + 1) else (r, b) := rfl

/-- The scalar search as a fold, without unfolding its 32 candidates (spec/41_pwm11.md R134). -/
theorem scalarSearch_eq (odd : Bool) (r : Nat) :
    scalarSearch odd r = (List.range' 1 32).foldl (tryScalar odd r) none := by
  unfold scalarSearch
  with_reducible rfl

/-- STP_SET_VEL's solve writes the solution registers and the bound source's port, and nothing else
(spec/43_stepper.md R178). -/
theorem applyVelocity_frame (tf : Word) (s : State) :
    applyVelocity tf s = { s with
      solve := (applyVelocity tf s).solve, ratio := (applyVelocity tf s).ratio, resid := (applyVelocity tf s).resid
      fallback := (applyVelocity tf s).fallback, duty := (applyVelocity tf s).duty
      pwmPort := (applyVelocity tf s).pwmPort, pwmPduty := (applyVelocity tf s).pwmPduty
      tm8Port := (applyVelocity tf s).tm8Port } := by
  unfold applyVelocity
  cases s.stp.src <;>
    simp only [writePwmSolution, applyPwmPort, applyPwmDuty, writeTm8Solution, applyTm8Port]

/-! ### Stepper -/

/-- The bits of RUN that `setRun` writes (spec/43_stepper.md R171). -/
theorem setRun_eq (ch : Channel) (v : Bool) (s : State) :
    setRun ch v s = { s with
      pwmRun := if ch = .pwm then v else s.pwmRun
      tm8Run := if ch = .tm8 then v else s.tm8Run } := by
  cases ch <;> simp [setRun]

/-- EndOfMove (spec/43_stepper.md R197) in one record. -/
theorem endOfMove_eq (s : State) :
    endOfMove s = { s with
      pwmRun := if s.stp.src = .pwm then false else s.pwmRun
      tm8Run := if s.stp.src = .tm8 then false else s.tm8Run
      moveDone := true, stpRevs := 0, stpCur := 0, stpFinal := 0, stpMspr := 0
      stp := { s.stp with mode := .stopped, isMoving := false, armed := false, distMode := false,
                          periodState := false } } := by
  cases h : s.stp.src <;> simp [endOfMove, setSourceRun, setRun, clearMotion, setMode, setMoveDone, h]

/-- A counted event ends the move, ends a revolution, or counts one step (spec/43_stepper.md R196). -/
theorem countStep_cases (s : State) :
    (s.stpCur + 1 = s.stpMspr ∧ s.stpRevs - 1 = 0 ∧ s.stpFinal = 0 ∧
      countStep s = endOfMove { s with stpCur := 0, stpRevs := s.stpRevs - 1 }) ∨
    (s.stpCur + 1 = s.stpMspr ∧ ¬ (s.stpRevs - 1 = 0 ∧ s.stpFinal = 0) ∧
      countStep s = { s with stpCur := 0, stpRevs := s.stpRevs - 1 }) ∨
    (s.stpCur + 1 ≠ s.stpMspr ∧ s.stpRevs = 0 ∧ s.stpFinal = s.stpCur + 1 ∧
      countStep s = endOfMove { s with stpCur := s.stpCur + 1 }) ∨
    (s.stpCur + 1 ≠ s.stpMspr ∧ ¬ (s.stpRevs = 0 ∧ s.stpFinal = s.stpCur + 1) ∧
      countStep s = { s with stpCur := s.stpCur + 1 }) := by
  unfold countStep
  by_cases hc : s.stpCur + 1 = s.stpMspr
  · simp only [hc, if_true, true_and, ne_eq, not_true_eq_false, false_and, or_false]
    by_cases he : s.stpRevs - 1 = 0 ∧ 0 = s.stpFinal
    · exact .inl ⟨he.1, he.2.symm, by rw [if_pos he]⟩
    · exact .inr ⟨fun h => he ⟨h.1, h.2.symm⟩, by rw [if_neg he]⟩
  · simp only [hc, if_false, ne_eq, not_false_eq_true, true_and, false_and, false_or]
    by_cases he : s.stpRevs = 0 ∧ s.stpCur + 1 = s.stpFinal
    · exact .inl ⟨he.1, he.2.symm, by rw [if_pos he]⟩
    · exact .inr ⟨fun h => he ⟨h.1, h.2.symm⟩, by rw [if_neg he]⟩

/-- An event is ignored, is the first half-period of the timer, or is counted (spec/43_stepper.md R196). -/
theorem stepEvent_cases (ch : Channel) (s : State) :
    ((s.stp.mode ≠ .movingDist ∨ s.stp.armed = false ∨ ch ≠ s.stp.src) ∧ stepEvent ch s = s) ∨
    (s.stp.mode = .movingDist ∧ s.stp.armed = true ∧ ch = s.stp.src ∧
      ((ch = .pwm ∧ stepEvent ch s = countStep s) ∨
       (ch = .tm8 ∧ s.stp.periodState = false ∧
         stepEvent ch s = { s with stp := { s.stp with periodState := true } }) ∨
       (ch = .tm8 ∧ s.stp.periodState = true ∧
         stepEvent ch s = countStep { s with stp := { s.stp with periodState := false } }))) := by
  unfold stepEvent
  by_cases h1 : s.stp.mode ≠ .movingDist ∨ s.stp.armed = false
  · rw [if_pos h1]
    exact .inl ⟨by tauto, rfl⟩
  · rw [if_neg h1]
    by_cases h2 : ch ≠ s.stp.src
    · rw [if_pos h2]
      exact .inl ⟨by tauto, rfl⟩
    · rw [if_neg h2]
      have h3 : ch = s.stp.src := not_not.1 h2
      have hm : s.stp.mode = .movingDist := by tauto
      have ha : s.stp.armed = true := by
        cases h : s.stp.armed
        · exact absurd (.inr h) h1
        · rfl
      refine .inr ⟨hm, ha, h3, ?_⟩
      cases hs : s.stp.src
      · exact .inl ⟨by rw [h3, hs], rfl⟩
      · cases hp : s.stp.periodState
        · exact .inr (.inl ⟨by rw [h3, hs], rfl, by simp⟩)
        · exact .inr (.inr ⟨by rw [h3, hs], rfl, by simp⟩)

/-- The motion that STP_MOVE starts ends at once or is under way (spec/43_stepper.md R181, R182). -/
theorem startMove_cases (revs fin : Nat) (s : State) :
    (revs = 0 ∧ fin = 0 ∧ startMove revs fin s = setMoveDone (setMode .stopped s)) ∨
    ((revs ≠ 0 ∨ fin ≠ 0) ∧ startMove revs fin s = { s with
      pwmRun := if s.stp.src = .pwm then true else s.pwmRun
      tm8Run := if s.stp.src = .tm8 then true else s.tm8Run
      stpRevs := BitVec.ofNat 16 revs, stpFinal := BitVec.ofNat 16 fin, stpCur := 0, stpMspr := s.snap.stpSpr
      stp := { s.stp with distMode := true, armed := true, isMoving := true, periodState := false,
                          mode := .movingDist } }) := by
  unfold startMove
  split
  · rename_i h
    exact .inl ⟨h.1, h.2, rfl⟩
  · rename_i h
    refine .inr ⟨by omega, ?_⟩
    cases hs : s.stp.src <;> simp [setSourceRun, setRun, hs]

@[simp] theorem canStart_eq_true (m : StpMode) : canStart m = true ↔ m = .enabled ∨ m = .stopped := by
  cases m <;> simp [canStart]

@[simp] theorem isMovingMode_eq_true (m : StpMode) : isMovingMode m = true ↔ m = .movingCont ∨ m = .movingDist := by
  cases m <;> simp [isMovingMode]

end Sys2Proof.Machine
end

