-- ==== Sys2Proof/Laws/PerInstr.lean ====
section
/-! SUPPORT. Statements about every command, one lemma per constructor of Instr. -/

/-- The encoding of a command is a well-formed word: its reserved bits are 0 and its opcode is in the table
(spec/30_encoding.md R91, R92). -/
def Sys2Proof.Laws.EncodeWellFormed.Statement : Sys2Proof.Instr → Prop :=
  fun i => Sys2Proof.wordWellFormed (Sys2Proof.encode i) = true

theorem Sys2Proof.Laws.EncodeWellFormed.nop : ∀ apply : Bool,
    Sys2Proof.Laws.EncodeWellFormed.Statement (.nop apply) := by
  unfold Sys2Proof.Laws.EncodeWellFormed.Statement
  decide

theorem Sys2Proof.Laws.EncodeWellFormed.div8 : ∀ apply : Bool,
    Sys2Proof.Laws.EncodeWellFormed.Statement (.div8 apply) := by
  unfold Sys2Proof.Laws.EncodeWellFormed.Statement
  decide

theorem Sys2Proof.Laws.EncodeWellFormed.div16 : ∀ apply : Bool,
    Sys2Proof.Laws.EncodeWellFormed.Statement (.div16 apply) := by
  unfold Sys2Proof.Laws.EncodeWellFormed.Statement
  decide

theorem Sys2Proof.Laws.EncodeWellFormed.div24 : ∀ apply : Bool,
    Sys2Proof.Laws.EncodeWellFormed.Statement (.div24 apply) := by
  unfold Sys2Proof.Laws.EncodeWellFormed.Statement
  decide

theorem Sys2Proof.Laws.EncodeWellFormed.div32 : ∀ apply : Bool,
    Sys2Proof.Laws.EncodeWellFormed.Statement (.div32 apply) := by
  unfold Sys2Proof.Laws.EncodeWellFormed.Statement
  decide

theorem Sys2Proof.Laws.EncodeWellFormed.mul8 : ∀ apply : Bool,
    Sys2Proof.Laws.EncodeWellFormed.Statement (.mul8 apply) := by
  unfold Sys2Proof.Laws.EncodeWellFormed.Statement
  decide

theorem Sys2Proof.Laws.EncodeWellFormed.mul16 : ∀ apply : Bool,
    Sys2Proof.Laws.EncodeWellFormed.Statement (.mul16 apply) := by
  unfold Sys2Proof.Laws.EncodeWellFormed.Statement
  decide

theorem Sys2Proof.Laws.EncodeWellFormed.pwmSolve : ∀ apply : Bool,
    Sys2Proof.Laws.EncodeWellFormed.Statement (.pwmSolve apply) := by
  unfold Sys2Proof.Laws.EncodeWellFormed.Statement
  decide

theorem Sys2Proof.Laws.EncodeWellFormed.pwmSolveDuty : ∀ apply : Bool,
    Sys2Proof.Laws.EncodeWellFormed.Statement (.pwmSolveDuty apply) := by
  unfold Sys2Proof.Laws.EncodeWellFormed.Statement
  decide

theorem Sys2Proof.Laws.EncodeWellFormed.tm8Solve : ∀ apply : Bool,
    Sys2Proof.Laws.EncodeWellFormed.Statement (.tm8Solve apply) := by
  unfold Sys2Proof.Laws.EncodeWellFormed.Statement
  decide

theorem Sys2Proof.Laws.EncodeWellFormed.tm8Duty : ∀ apply : Bool,
    Sys2Proof.Laws.EncodeWellFormed.Statement (.tm8Duty apply) := by
  unfold Sys2Proof.Laws.EncodeWellFormed.Statement
  decide

theorem Sys2Proof.Laws.EncodeWellFormed.stpInit : ∀ apply : Bool,
    Sys2Proof.Laws.EncodeWellFormed.Statement (.stpInit apply) := by
  unfold Sys2Proof.Laws.EncodeWellFormed.Statement
  decide

theorem Sys2Proof.Laws.EncodeWellFormed.stpEnable : ∀ apply : Bool,
    Sys2Proof.Laws.EncodeWellFormed.Statement (.stpEnable apply) := by
  unfold Sys2Proof.Laws.EncodeWellFormed.Statement
  decide

theorem Sys2Proof.Laws.EncodeWellFormed.stpSetDir : ∀ apply : Bool,
    Sys2Proof.Laws.EncodeWellFormed.Statement (.stpSetDir apply) := by
  unfold Sys2Proof.Laws.EncodeWellFormed.Statement
  decide

theorem Sys2Proof.Laws.EncodeWellFormed.stpSetVel : ∀ apply : Bool,
    Sys2Proof.Laws.EncodeWellFormed.Statement (.stpSetVel apply) := by
  unfold Sys2Proof.Laws.EncodeWellFormed.Statement
  decide

theorem Sys2Proof.Laws.EncodeWellFormed.stpRun : ∀ apply : Bool,
    Sys2Proof.Laws.EncodeWellFormed.Statement (.stpRun apply) := by
  unfold Sys2Proof.Laws.EncodeWellFormed.Statement
  decide

theorem Sys2Proof.Laws.EncodeWellFormed.stpMove : ∀ apply : Bool,
    Sys2Proof.Laws.EncodeWellFormed.Statement (.stpMove apply) := by
  unfold Sys2Proof.Laws.EncodeWellFormed.Statement
  decide

theorem Sys2Proof.Laws.EncodeWellFormed.stpStop : ∀ apply : Bool,
    Sys2Proof.Laws.EncodeWellFormed.Statement (.stpStop apply) := by
  unfold Sys2Proof.Laws.EncodeWellFormed.Statement
  decide

theorem Sys2Proof.Laws.EncodeWellFormed.stpDisable : ∀ apply : Bool,
    Sys2Proof.Laws.EncodeWellFormed.Statement (.stpDisable apply) := by
  unfold Sys2Proof.Laws.EncodeWellFormed.Statement
  decide

theorem Sys2Proof.Laws.EncodeWellFormed.stpRelease : ∀ apply : Bool,
    Sys2Proof.Laws.EncodeWellFormed.Statement (.stpRelease apply) := by
  unfold Sys2Proof.Laws.EncodeWellFormed.Statement
  decide

theorem Sys2Proof.Laws.EncodeWellFormed.stpEvent : ∀ apply : Bool,
    Sys2Proof.Laws.EncodeWellFormed.Statement (.stpEvent apply) := by
  unfold Sys2Proof.Laws.EncodeWellFormed.Statement
  decide
end

