-- ==== Sys2Proof/Laws/State.lean ====
section
/-! SUPPORT. One lemma per field per named update of State, so that a proof never unfolds a record update. `complete`,
`raiseError` and `setSourceRun` reduce to the updates listed here. -/

namespace Sys2Proof.Machine

@[simp] theorem complete_eq (s : State) : complete s = setCompleted s := rfl

@[simp] theorem raiseError_eq (c : ErrCode) (s : State) : raiseError c s = setCompleted (setError c s) := rfl

@[simp] theorem setSourceRun_eq (b : Bool) (s : State) : setSourceRun b s = setRun s.stp.src b s := rfl

@[simp] theorem setError_done (c : ErrCode) (s : State) : (setError c s).done = s.done := rfl
@[simp] theorem setError_err (c : ErrCode) (s : State) : (setError c s).err = true := rfl
@[simp] theorem setError_moveDone (c : ErrCode) (s : State) : (setError c s).moveDone = s.moveDone := rfl
@[simp] theorem setError_fallback (c : ErrCode) (s : State) : (setError c s).fallback = s.fallback := rfl
@[simp] theorem setError_errCode (c : ErrCode) (s : State) : (setError c s).errCode = c := rfl
@[simp] theorem setError_ctrl (c : ErrCode) (s : State) : (setError c s).ctrl = s.ctrl := rfl
@[simp] theorem setError_cmd (c : ErrCode) (s : State) : (setError c s).cmd = s.cmd := rfl
@[simp] theorem setError_opa (c : ErrCode) (s : State) : (setError c s).opa = s.opa := rfl
@[simp] theorem setError_opb (c : ErrCode) (s : State) : (setError c s).opb = s.opb := rfl
@[simp] theorem setError_res0 (c : ErrCode) (s : State) : (setError c s).res0 = s.res0 := rfl
@[simp] theorem setError_res1 (c : ErrCode) (s : State) : (setError c s).res1 = s.res1 := rfl
@[simp] theorem setError_solve (c : ErrCode) (s : State) : (setError c s).solve = s.solve := rfl
@[simp] theorem setError_duty (c : ErrCode) (s : State) : (setError c s).duty = s.duty := rfl
@[simp] theorem setError_ratio (c : ErrCode) (s : State) : (setError c s).ratio = s.ratio := rfl
@[simp] theorem setError_resid (c : ErrCode) (s : State) : (setError c s).resid = s.resid := rfl
@[simp] theorem setError_clkPwm (c : ErrCode) (s : State) : (setError c s).clkPwm = s.clkPwm := rfl
@[simp] theorem setError_clkTm8 (c : ErrCode) (s : State) : (setError c s).clkTm8 = s.clkTm8 := rfl
@[simp] theorem setError_pwmRun (c : ErrCode) (s : State) : (setError c s).pwmRun = s.pwmRun := rfl
@[simp] theorem setError_tm8Run (c : ErrCode) (s : State) : (setError c s).tm8Run = s.tm8Run := rfl
@[simp] theorem setError_pwmPort (c : ErrCode) (s : State) : (setError c s).pwmPort = s.pwmPort := rfl
@[simp] theorem setError_pwmPduty (c : ErrCode) (s : State) : (setError c s).pwmPduty = s.pwmPduty := rfl
@[simp] theorem setError_tm8Port (c : ErrCode) (s : State) : (setError c s).tm8Port = s.tm8Port := rfl
@[simp] theorem setError_stpUpr (c : ErrCode) (s : State) : (setError c s).stpUpr = s.stpUpr := rfl
@[simp] theorem setError_stpSpr (c : ErrCode) (s : State) : (setError c s).stpSpr = s.stpSpr := rfl
@[simp] theorem setError_stpTfreq (c : ErrCode) (s : State) : (setError c s).stpTfreq = s.stpTfreq := rfl
@[simp] theorem setError_stpRevs (c : ErrCode) (s : State) : (setError c s).stpRevs = s.stpRevs := rfl
@[simp] theorem setError_stpCur (c : ErrCode) (s : State) : (setError c s).stpCur = s.stpCur := rfl
@[simp] theorem setError_stpFinal (c : ErrCode) (s : State) : (setError c s).stpFinal = s.stpFinal := rfl
@[simp] theorem setError_stpMspr (c : ErrCode) (s : State) : (setError c s).stpMspr = s.stpMspr := rfl
@[simp] theorem setError_stp (c : ErrCode) (s : State) : (setError c s).stp = s.stp := rfl
@[simp] theorem setError_engBusy (c : ErrCode) (s : State) : (setError c s).engBusy = s.engBusy := rfl
@[simp] theorem setError_engCmd (c : ErrCode) (s : State) : (setError c s).engCmd = s.engCmd := rfl
@[simp] theorem setError_snap (c : ErrCode) (s : State) : (setError c s).snap = s.snap := rfl
@[simp] theorem setError_rst (c : ErrCode) (s : State) : (setError c s).rst = s.rst := rfl
@[simp] theorem setError_readData (c : ErrCode) (s : State) : (setError c s).readData = s.readData := rfl
@[simp] theorem setError_inputs (c : ErrCode) (s : State) : (setError c s).inputs = s.inputs := rfl

@[simp] theorem setMoveDone_done (s : State) : (setMoveDone s).done = s.done := rfl
@[simp] theorem setMoveDone_err (s : State) : (setMoveDone s).err = s.err := rfl
@[simp] theorem setMoveDone_moveDone (s : State) : (setMoveDone s).moveDone = true := rfl
@[simp] theorem setMoveDone_fallback (s : State) : (setMoveDone s).fallback = s.fallback := rfl
@[simp] theorem setMoveDone_errCode (s : State) : (setMoveDone s).errCode = s.errCode := rfl
@[simp] theorem setMoveDone_ctrl (s : State) : (setMoveDone s).ctrl = s.ctrl := rfl
@[simp] theorem setMoveDone_cmd (s : State) : (setMoveDone s).cmd = s.cmd := rfl
@[simp] theorem setMoveDone_opa (s : State) : (setMoveDone s).opa = s.opa := rfl
@[simp] theorem setMoveDone_opb (s : State) : (setMoveDone s).opb = s.opb := rfl
@[simp] theorem setMoveDone_res0 (s : State) : (setMoveDone s).res0 = s.res0 := rfl
@[simp] theorem setMoveDone_res1 (s : State) : (setMoveDone s).res1 = s.res1 := rfl
@[simp] theorem setMoveDone_solve (s : State) : (setMoveDone s).solve = s.solve := rfl
@[simp] theorem setMoveDone_duty (s : State) : (setMoveDone s).duty = s.duty := rfl
@[simp] theorem setMoveDone_ratio (s : State) : (setMoveDone s).ratio = s.ratio := rfl
@[simp] theorem setMoveDone_resid (s : State) : (setMoveDone s).resid = s.resid := rfl
@[simp] theorem setMoveDone_clkPwm (s : State) : (setMoveDone s).clkPwm = s.clkPwm := rfl
@[simp] theorem setMoveDone_clkTm8 (s : State) : (setMoveDone s).clkTm8 = s.clkTm8 := rfl
@[simp] theorem setMoveDone_pwmRun (s : State) : (setMoveDone s).pwmRun = s.pwmRun := rfl
@[simp] theorem setMoveDone_tm8Run (s : State) : (setMoveDone s).tm8Run = s.tm8Run := rfl
@[simp] theorem setMoveDone_pwmPort (s : State) : (setMoveDone s).pwmPort = s.pwmPort := rfl
@[simp] theorem setMoveDone_pwmPduty (s : State) : (setMoveDone s).pwmPduty = s.pwmPduty := rfl
@[simp] theorem setMoveDone_tm8Port (s : State) : (setMoveDone s).tm8Port = s.tm8Port := rfl
@[simp] theorem setMoveDone_stpUpr (s : State) : (setMoveDone s).stpUpr = s.stpUpr := rfl
@[simp] theorem setMoveDone_stpSpr (s : State) : (setMoveDone s).stpSpr = s.stpSpr := rfl
@[simp] theorem setMoveDone_stpTfreq (s : State) : (setMoveDone s).stpTfreq = s.stpTfreq := rfl
@[simp] theorem setMoveDone_stpRevs (s : State) : (setMoveDone s).stpRevs = s.stpRevs := rfl
@[simp] theorem setMoveDone_stpCur (s : State) : (setMoveDone s).stpCur = s.stpCur := rfl
@[simp] theorem setMoveDone_stpFinal (s : State) : (setMoveDone s).stpFinal = s.stpFinal := rfl
@[simp] theorem setMoveDone_stpMspr (s : State) : (setMoveDone s).stpMspr = s.stpMspr := rfl
@[simp] theorem setMoveDone_stp (s : State) : (setMoveDone s).stp = s.stp := rfl
@[simp] theorem setMoveDone_engBusy (s : State) : (setMoveDone s).engBusy = s.engBusy := rfl
@[simp] theorem setMoveDone_engCmd (s : State) : (setMoveDone s).engCmd = s.engCmd := rfl
@[simp] theorem setMoveDone_snap (s : State) : (setMoveDone s).snap = s.snap := rfl
@[simp] theorem setMoveDone_rst (s : State) : (setMoveDone s).rst = s.rst := rfl
@[simp] theorem setMoveDone_readData (s : State) : (setMoveDone s).readData = s.readData := rfl
@[simp] theorem setMoveDone_inputs (s : State) : (setMoveDone s).inputs = s.inputs := rfl

@[simp] theorem setCompleted_done (s : State) : (setCompleted s).done = true := rfl
@[simp] theorem setCompleted_err (s : State) : (setCompleted s).err = s.err := rfl
@[simp] theorem setCompleted_moveDone (s : State) : (setCompleted s).moveDone = s.moveDone := rfl
@[simp] theorem setCompleted_fallback (s : State) : (setCompleted s).fallback = s.fallback := rfl
@[simp] theorem setCompleted_errCode (s : State) : (setCompleted s).errCode = s.errCode := rfl
@[simp] theorem setCompleted_ctrl (s : State) : (setCompleted s).ctrl = s.ctrl := rfl
@[simp] theorem setCompleted_cmd (s : State) : (setCompleted s).cmd = s.cmd := rfl
@[simp] theorem setCompleted_opa (s : State) : (setCompleted s).opa = s.opa := rfl
@[simp] theorem setCompleted_opb (s : State) : (setCompleted s).opb = s.opb := rfl
@[simp] theorem setCompleted_res0 (s : State) : (setCompleted s).res0 = s.res0 := rfl
@[simp] theorem setCompleted_res1 (s : State) : (setCompleted s).res1 = s.res1 := rfl
@[simp] theorem setCompleted_solve (s : State) : (setCompleted s).solve = s.solve := rfl
@[simp] theorem setCompleted_duty (s : State) : (setCompleted s).duty = s.duty := rfl
@[simp] theorem setCompleted_ratio (s : State) : (setCompleted s).ratio = s.ratio := rfl
@[simp] theorem setCompleted_resid (s : State) : (setCompleted s).resid = s.resid := rfl
@[simp] theorem setCompleted_clkPwm (s : State) : (setCompleted s).clkPwm = s.clkPwm := rfl
@[simp] theorem setCompleted_clkTm8 (s : State) : (setCompleted s).clkTm8 = s.clkTm8 := rfl
@[simp] theorem setCompleted_pwmRun (s : State) : (setCompleted s).pwmRun = s.pwmRun := rfl
@[simp] theorem setCompleted_tm8Run (s : State) : (setCompleted s).tm8Run = s.tm8Run := rfl
@[simp] theorem setCompleted_pwmPort (s : State) : (setCompleted s).pwmPort = s.pwmPort := rfl
@[simp] theorem setCompleted_pwmPduty (s : State) : (setCompleted s).pwmPduty = s.pwmPduty := rfl
@[simp] theorem setCompleted_tm8Port (s : State) : (setCompleted s).tm8Port = s.tm8Port := rfl
@[simp] theorem setCompleted_stpUpr (s : State) : (setCompleted s).stpUpr = s.stpUpr := rfl
@[simp] theorem setCompleted_stpSpr (s : State) : (setCompleted s).stpSpr = s.stpSpr := rfl
@[simp] theorem setCompleted_stpTfreq (s : State) : (setCompleted s).stpTfreq = s.stpTfreq := rfl
@[simp] theorem setCompleted_stpRevs (s : State) : (setCompleted s).stpRevs = s.stpRevs := rfl
@[simp] theorem setCompleted_stpCur (s : State) : (setCompleted s).stpCur = s.stpCur := rfl
@[simp] theorem setCompleted_stpFinal (s : State) : (setCompleted s).stpFinal = s.stpFinal := rfl
@[simp] theorem setCompleted_stpMspr (s : State) : (setCompleted s).stpMspr = s.stpMspr := rfl
@[simp] theorem setCompleted_stp (s : State) : (setCompleted s).stp = s.stp := rfl
@[simp] theorem setCompleted_engBusy (s : State) : (setCompleted s).engBusy = false := rfl
@[simp] theorem setCompleted_engCmd (s : State) : (setCompleted s).engCmd = s.engCmd := rfl
@[simp] theorem setCompleted_snap (s : State) : (setCompleted s).snap = s.snap := rfl
@[simp] theorem setCompleted_rst (s : State) : (setCompleted s).rst = s.rst := rfl
@[simp] theorem setCompleted_readData (s : State) : (setCompleted s).readData = s.readData := rfl
@[simp] theorem setCompleted_inputs (s : State) : (setCompleted s).inputs = s.inputs := rfl

@[simp] theorem clearStatus_done (v : Word) (s : State) : (clearStatus v s).done = (s.done && !v.getLsbD 1) := rfl
@[simp] theorem clearStatus_err (v : Word) (s : State) : (clearStatus v s).err = (s.err && !v.getLsbD 2) := rfl
@[simp] theorem clearStatus_moveDone (v : Word) (s : State) : (clearStatus v s).moveDone = (s.moveDone && !v.getLsbD 3) := rfl
@[simp] theorem clearStatus_fallback (v : Word) (s : State) : (clearStatus v s).fallback = s.fallback := rfl
@[simp] theorem clearStatus_errCode (v : Word) (s : State) : (clearStatus v s).errCode = (if v.getLsbD 2 then .none else s.errCode) := rfl
@[simp] theorem clearStatus_ctrl (v : Word) (s : State) : (clearStatus v s).ctrl = s.ctrl := rfl
@[simp] theorem clearStatus_cmd (v : Word) (s : State) : (clearStatus v s).cmd = s.cmd := rfl
@[simp] theorem clearStatus_opa (v : Word) (s : State) : (clearStatus v s).opa = s.opa := rfl
@[simp] theorem clearStatus_opb (v : Word) (s : State) : (clearStatus v s).opb = s.opb := rfl
@[simp] theorem clearStatus_res0 (v : Word) (s : State) : (clearStatus v s).res0 = s.res0 := rfl
@[simp] theorem clearStatus_res1 (v : Word) (s : State) : (clearStatus v s).res1 = s.res1 := rfl
@[simp] theorem clearStatus_solve (v : Word) (s : State) : (clearStatus v s).solve = s.solve := rfl
@[simp] theorem clearStatus_duty (v : Word) (s : State) : (clearStatus v s).duty = s.duty := rfl
@[simp] theorem clearStatus_ratio (v : Word) (s : State) : (clearStatus v s).ratio = s.ratio := rfl
@[simp] theorem clearStatus_resid (v : Word) (s : State) : (clearStatus v s).resid = s.resid := rfl
@[simp] theorem clearStatus_clkPwm (v : Word) (s : State) : (clearStatus v s).clkPwm = s.clkPwm := rfl
@[simp] theorem clearStatus_clkTm8 (v : Word) (s : State) : (clearStatus v s).clkTm8 = s.clkTm8 := rfl
@[simp] theorem clearStatus_pwmRun (v : Word) (s : State) : (clearStatus v s).pwmRun = s.pwmRun := rfl
@[simp] theorem clearStatus_tm8Run (v : Word) (s : State) : (clearStatus v s).tm8Run = s.tm8Run := rfl
@[simp] theorem clearStatus_pwmPort (v : Word) (s : State) : (clearStatus v s).pwmPort = s.pwmPort := rfl
@[simp] theorem clearStatus_pwmPduty (v : Word) (s : State) : (clearStatus v s).pwmPduty = s.pwmPduty := rfl
@[simp] theorem clearStatus_tm8Port (v : Word) (s : State) : (clearStatus v s).tm8Port = s.tm8Port := rfl
@[simp] theorem clearStatus_stpUpr (v : Word) (s : State) : (clearStatus v s).stpUpr = s.stpUpr := rfl
@[simp] theorem clearStatus_stpSpr (v : Word) (s : State) : (clearStatus v s).stpSpr = s.stpSpr := rfl
@[simp] theorem clearStatus_stpTfreq (v : Word) (s : State) : (clearStatus v s).stpTfreq = s.stpTfreq := rfl
@[simp] theorem clearStatus_stpRevs (v : Word) (s : State) : (clearStatus v s).stpRevs = s.stpRevs := rfl
@[simp] theorem clearStatus_stpCur (v : Word) (s : State) : (clearStatus v s).stpCur = s.stpCur := rfl
@[simp] theorem clearStatus_stpFinal (v : Word) (s : State) : (clearStatus v s).stpFinal = s.stpFinal := rfl
@[simp] theorem clearStatus_stpMspr (v : Word) (s : State) : (clearStatus v s).stpMspr = s.stpMspr := rfl
@[simp] theorem clearStatus_stp (v : Word) (s : State) : (clearStatus v s).stp = s.stp := rfl
@[simp] theorem clearStatus_engBusy (v : Word) (s : State) : (clearStatus v s).engBusy = s.engBusy := rfl
@[simp] theorem clearStatus_engCmd (v : Word) (s : State) : (clearStatus v s).engCmd = s.engCmd := rfl
@[simp] theorem clearStatus_snap (v : Word) (s : State) : (clearStatus v s).snap = s.snap := rfl
@[simp] theorem clearStatus_rst (v : Word) (s : State) : (clearStatus v s).rst = s.rst := rfl
@[simp] theorem clearStatus_readData (v : Word) (s : State) : (clearStatus v s).readData = s.readData := rfl
@[simp] theorem clearStatus_inputs (v : Word) (s : State) : (clearStatus v s).inputs = s.inputs := rfl

@[simp] theorem setMode_done (m : StpMode) (s : State) : (setMode m s).done = s.done := rfl
@[simp] theorem setMode_err (m : StpMode) (s : State) : (setMode m s).err = s.err := rfl
@[simp] theorem setMode_moveDone (m : StpMode) (s : State) : (setMode m s).moveDone = s.moveDone := rfl
@[simp] theorem setMode_fallback (m : StpMode) (s : State) : (setMode m s).fallback = s.fallback := rfl
@[simp] theorem setMode_errCode (m : StpMode) (s : State) : (setMode m s).errCode = s.errCode := rfl
@[simp] theorem setMode_ctrl (m : StpMode) (s : State) : (setMode m s).ctrl = s.ctrl := rfl
@[simp] theorem setMode_cmd (m : StpMode) (s : State) : (setMode m s).cmd = s.cmd := rfl
@[simp] theorem setMode_opa (m : StpMode) (s : State) : (setMode m s).opa = s.opa := rfl
@[simp] theorem setMode_opb (m : StpMode) (s : State) : (setMode m s).opb = s.opb := rfl
@[simp] theorem setMode_res0 (m : StpMode) (s : State) : (setMode m s).res0 = s.res0 := rfl
@[simp] theorem setMode_res1 (m : StpMode) (s : State) : (setMode m s).res1 = s.res1 := rfl
@[simp] theorem setMode_solve (m : StpMode) (s : State) : (setMode m s).solve = s.solve := rfl
@[simp] theorem setMode_duty (m : StpMode) (s : State) : (setMode m s).duty = s.duty := rfl
@[simp] theorem setMode_ratio (m : StpMode) (s : State) : (setMode m s).ratio = s.ratio := rfl
@[simp] theorem setMode_resid (m : StpMode) (s : State) : (setMode m s).resid = s.resid := rfl
@[simp] theorem setMode_clkPwm (m : StpMode) (s : State) : (setMode m s).clkPwm = s.clkPwm := rfl
@[simp] theorem setMode_clkTm8 (m : StpMode) (s : State) : (setMode m s).clkTm8 = s.clkTm8 := rfl
@[simp] theorem setMode_pwmRun (m : StpMode) (s : State) : (setMode m s).pwmRun = s.pwmRun := rfl
@[simp] theorem setMode_tm8Run (m : StpMode) (s : State) : (setMode m s).tm8Run = s.tm8Run := rfl
@[simp] theorem setMode_pwmPort (m : StpMode) (s : State) : (setMode m s).pwmPort = s.pwmPort := rfl
@[simp] theorem setMode_pwmPduty (m : StpMode) (s : State) : (setMode m s).pwmPduty = s.pwmPduty := rfl
@[simp] theorem setMode_tm8Port (m : StpMode) (s : State) : (setMode m s).tm8Port = s.tm8Port := rfl
@[simp] theorem setMode_stpUpr (m : StpMode) (s : State) : (setMode m s).stpUpr = s.stpUpr := rfl
@[simp] theorem setMode_stpSpr (m : StpMode) (s : State) : (setMode m s).stpSpr = s.stpSpr := rfl
@[simp] theorem setMode_stpTfreq (m : StpMode) (s : State) : (setMode m s).stpTfreq = s.stpTfreq := rfl
@[simp] theorem setMode_stpRevs (m : StpMode) (s : State) : (setMode m s).stpRevs = s.stpRevs := rfl
@[simp] theorem setMode_stpCur (m : StpMode) (s : State) : (setMode m s).stpCur = s.stpCur := rfl
@[simp] theorem setMode_stpFinal (m : StpMode) (s : State) : (setMode m s).stpFinal = s.stpFinal := rfl
@[simp] theorem setMode_stpMspr (m : StpMode) (s : State) : (setMode m s).stpMspr = s.stpMspr := rfl
@[simp] theorem setMode_stp (m : StpMode) (s : State) : (setMode m s).stp = { s.stp with mode := m } := rfl
@[simp] theorem setMode_engBusy (m : StpMode) (s : State) : (setMode m s).engBusy = s.engBusy := rfl
@[simp] theorem setMode_engCmd (m : StpMode) (s : State) : (setMode m s).engCmd = s.engCmd := rfl
@[simp] theorem setMode_snap (m : StpMode) (s : State) : (setMode m s).snap = s.snap := rfl
@[simp] theorem setMode_rst (m : StpMode) (s : State) : (setMode m s).rst = s.rst := rfl
@[simp] theorem setMode_readData (m : StpMode) (s : State) : (setMode m s).readData = s.readData := rfl
@[simp] theorem setMode_inputs (m : StpMode) (s : State) : (setMode m s).inputs = s.inputs := rfl

@[simp] theorem clearMotion_done (s : State) : (clearMotion s).done = s.done := rfl
@[simp] theorem clearMotion_err (s : State) : (clearMotion s).err = s.err := rfl
@[simp] theorem clearMotion_moveDone (s : State) : (clearMotion s).moveDone = s.moveDone := rfl
@[simp] theorem clearMotion_fallback (s : State) : (clearMotion s).fallback = s.fallback := rfl
@[simp] theorem clearMotion_errCode (s : State) : (clearMotion s).errCode = s.errCode := rfl
@[simp] theorem clearMotion_ctrl (s : State) : (clearMotion s).ctrl = s.ctrl := rfl
@[simp] theorem clearMotion_cmd (s : State) : (clearMotion s).cmd = s.cmd := rfl
@[simp] theorem clearMotion_opa (s : State) : (clearMotion s).opa = s.opa := rfl
@[simp] theorem clearMotion_opb (s : State) : (clearMotion s).opb = s.opb := rfl
@[simp] theorem clearMotion_res0 (s : State) : (clearMotion s).res0 = s.res0 := rfl
@[simp] theorem clearMotion_res1 (s : State) : (clearMotion s).res1 = s.res1 := rfl
@[simp] theorem clearMotion_solve (s : State) : (clearMotion s).solve = s.solve := rfl
@[simp] theorem clearMotion_duty (s : State) : (clearMotion s).duty = s.duty := rfl
@[simp] theorem clearMotion_ratio (s : State) : (clearMotion s).ratio = s.ratio := rfl
@[simp] theorem clearMotion_resid (s : State) : (clearMotion s).resid = s.resid := rfl
@[simp] theorem clearMotion_clkPwm (s : State) : (clearMotion s).clkPwm = s.clkPwm := rfl
@[simp] theorem clearMotion_clkTm8 (s : State) : (clearMotion s).clkTm8 = s.clkTm8 := rfl
@[simp] theorem clearMotion_pwmRun (s : State) : (clearMotion s).pwmRun = s.pwmRun := rfl
@[simp] theorem clearMotion_tm8Run (s : State) : (clearMotion s).tm8Run = s.tm8Run := rfl
@[simp] theorem clearMotion_pwmPort (s : State) : (clearMotion s).pwmPort = s.pwmPort := rfl
@[simp] theorem clearMotion_pwmPduty (s : State) : (clearMotion s).pwmPduty = s.pwmPduty := rfl
@[simp] theorem clearMotion_tm8Port (s : State) : (clearMotion s).tm8Port = s.tm8Port := rfl
@[simp] theorem clearMotion_stpUpr (s : State) : (clearMotion s).stpUpr = s.stpUpr := rfl
@[simp] theorem clearMotion_stpSpr (s : State) : (clearMotion s).stpSpr = s.stpSpr := rfl
@[simp] theorem clearMotion_stpTfreq (s : State) : (clearMotion s).stpTfreq = s.stpTfreq := rfl
@[simp] theorem clearMotion_stpRevs (s : State) : (clearMotion s).stpRevs = 0 := rfl
@[simp] theorem clearMotion_stpCur (s : State) : (clearMotion s).stpCur = 0 := rfl
@[simp] theorem clearMotion_stpFinal (s : State) : (clearMotion s).stpFinal = 0 := rfl
@[simp] theorem clearMotion_stpMspr (s : State) : (clearMotion s).stpMspr = 0 := rfl
@[simp] theorem clearMotion_stp (s : State) : (clearMotion s).stp = { s.stp with isMoving := false, armed := false, distMode := false, periodState := false } := rfl
@[simp] theorem clearMotion_engBusy (s : State) : (clearMotion s).engBusy = s.engBusy := rfl
@[simp] theorem clearMotion_engCmd (s : State) : (clearMotion s).engCmd = s.engCmd := rfl
@[simp] theorem clearMotion_snap (s : State) : (clearMotion s).snap = s.snap := rfl
@[simp] theorem clearMotion_rst (s : State) : (clearMotion s).rst = s.rst := rfl
@[simp] theorem clearMotion_readData (s : State) : (clearMotion s).readData = s.readData := rfl
@[simp] theorem clearMotion_inputs (s : State) : (clearMotion s).inputs = s.inputs := rfl

@[simp] theorem setRun_done (ch : Channel) (b : Bool) (s : State) : (setRun ch b s).done = s.done := by cases ch <;> rfl
@[simp] theorem setRun_err (ch : Channel) (b : Bool) (s : State) : (setRun ch b s).err = s.err := by cases ch <;> rfl
@[simp] theorem setRun_moveDone (ch : Channel) (b : Bool) (s : State) : (setRun ch b s).moveDone = s.moveDone := by cases ch <;> rfl
@[simp] theorem setRun_fallback (ch : Channel) (b : Bool) (s : State) : (setRun ch b s).fallback = s.fallback := by cases ch <;> rfl
@[simp] theorem setRun_errCode (ch : Channel) (b : Bool) (s : State) : (setRun ch b s).errCode = s.errCode := by cases ch <;> rfl
@[simp] theorem setRun_ctrl (ch : Channel) (b : Bool) (s : State) : (setRun ch b s).ctrl = s.ctrl := by cases ch <;> rfl
@[simp] theorem setRun_cmd (ch : Channel) (b : Bool) (s : State) : (setRun ch b s).cmd = s.cmd := by cases ch <;> rfl
@[simp] theorem setRun_opa (ch : Channel) (b : Bool) (s : State) : (setRun ch b s).opa = s.opa := by cases ch <;> rfl
@[simp] theorem setRun_opb (ch : Channel) (b : Bool) (s : State) : (setRun ch b s).opb = s.opb := by cases ch <;> rfl
@[simp] theorem setRun_res0 (ch : Channel) (b : Bool) (s : State) : (setRun ch b s).res0 = s.res0 := by cases ch <;> rfl
@[simp] theorem setRun_res1 (ch : Channel) (b : Bool) (s : State) : (setRun ch b s).res1 = s.res1 := by cases ch <;> rfl
@[simp] theorem setRun_solve (ch : Channel) (b : Bool) (s : State) : (setRun ch b s).solve = s.solve := by cases ch <;> rfl
@[simp] theorem setRun_duty (ch : Channel) (b : Bool) (s : State) : (setRun ch b s).duty = s.duty := by cases ch <;> rfl
@[simp] theorem setRun_ratio (ch : Channel) (b : Bool) (s : State) : (setRun ch b s).ratio = s.ratio := by cases ch <;> rfl
@[simp] theorem setRun_resid (ch : Channel) (b : Bool) (s : State) : (setRun ch b s).resid = s.resid := by cases ch <;> rfl
@[simp] theorem setRun_clkPwm (ch : Channel) (b : Bool) (s : State) : (setRun ch b s).clkPwm = s.clkPwm := by cases ch <;> rfl
@[simp] theorem setRun_clkTm8 (ch : Channel) (b : Bool) (s : State) : (setRun ch b s).clkTm8 = s.clkTm8 := by cases ch <;> rfl
@[simp] theorem setRun_pwmRun (ch : Channel) (b : Bool) (s : State) : (setRun ch b s).pwmRun = (if ch = .pwm then b else s.pwmRun) := by cases ch <;> rfl
@[simp] theorem setRun_tm8Run (ch : Channel) (b : Bool) (s : State) : (setRun ch b s).tm8Run = (if ch = .tm8 then b else s.tm8Run) := by cases ch <;> rfl
@[simp] theorem setRun_pwmPort (ch : Channel) (b : Bool) (s : State) : (setRun ch b s).pwmPort = s.pwmPort := by cases ch <;> rfl
@[simp] theorem setRun_pwmPduty (ch : Channel) (b : Bool) (s : State) : (setRun ch b s).pwmPduty = s.pwmPduty := by cases ch <;> rfl
@[simp] theorem setRun_tm8Port (ch : Channel) (b : Bool) (s : State) : (setRun ch b s).tm8Port = s.tm8Port := by cases ch <;> rfl
@[simp] theorem setRun_stpUpr (ch : Channel) (b : Bool) (s : State) : (setRun ch b s).stpUpr = s.stpUpr := by cases ch <;> rfl
@[simp] theorem setRun_stpSpr (ch : Channel) (b : Bool) (s : State) : (setRun ch b s).stpSpr = s.stpSpr := by cases ch <;> rfl
@[simp] theorem setRun_stpTfreq (ch : Channel) (b : Bool) (s : State) : (setRun ch b s).stpTfreq = s.stpTfreq := by cases ch <;> rfl
@[simp] theorem setRun_stpRevs (ch : Channel) (b : Bool) (s : State) : (setRun ch b s).stpRevs = s.stpRevs := by cases ch <;> rfl
@[simp] theorem setRun_stpCur (ch : Channel) (b : Bool) (s : State) : (setRun ch b s).stpCur = s.stpCur := by cases ch <;> rfl
@[simp] theorem setRun_stpFinal (ch : Channel) (b : Bool) (s : State) : (setRun ch b s).stpFinal = s.stpFinal := by cases ch <;> rfl
@[simp] theorem setRun_stpMspr (ch : Channel) (b : Bool) (s : State) : (setRun ch b s).stpMspr = s.stpMspr := by cases ch <;> rfl
@[simp] theorem setRun_stp (ch : Channel) (b : Bool) (s : State) : (setRun ch b s).stp = s.stp := by cases ch <;> rfl
@[simp] theorem setRun_engBusy (ch : Channel) (b : Bool) (s : State) : (setRun ch b s).engBusy = s.engBusy := by cases ch <;> rfl
@[simp] theorem setRun_engCmd (ch : Channel) (b : Bool) (s : State) : (setRun ch b s).engCmd = s.engCmd := by cases ch <;> rfl
@[simp] theorem setRun_snap (ch : Channel) (b : Bool) (s : State) : (setRun ch b s).snap = s.snap := by cases ch <;> rfl
@[simp] theorem setRun_rst (ch : Channel) (b : Bool) (s : State) : (setRun ch b s).rst = s.rst := by cases ch <;> rfl
@[simp] theorem setRun_readData (ch : Channel) (b : Bool) (s : State) : (setRun ch b s).readData = s.readData := by cases ch <;> rfl
@[simp] theorem setRun_inputs (ch : Channel) (b : Bool) (s : State) : (setRun ch b s).inputs = s.inputs := by cases ch <;> rfl

end Sys2Proof.Machine
end

