-- ==== Sys2Proof/Laws/Step.lean ====
section
/-! SUPPORT. The step by the next entry of `inputs`, and what each agent's step can be. -/

namespace Sys2Proof.Machine

theorem step_nil {s : State} (h : s.inputs = []) : step s = engineStep s := by simp [step, h]

theorem step_engine_cons {s : State} {rest : List Input} (h : s.inputs = .engine :: rest) :
    step s = engineStep { s with inputs := rest } := by simp [step, h]

theorem step_input_cons {s : State} {i : Input} {rest : List Input} (h : s.inputs = i :: rest) (hi : i ≠ .engine) :
    step s = .next (inputStep i { s with inputs := rest }) := by
  cases i <;> first | exact absurd rfl hi | simp [step, h]

/-- The engine completes its command while it is busy and not in reset (spec/60_exceptions.md R212). -/
theorem engineStep_busy {s : State} (hb : s.engBusy = true) (hr : s.rst = false) :
    engineStep s = completeCommand s := by simp [engineStep, hb, hr]

/-- It has no step otherwise (spec/60_exceptions.md R212, spec/70_reset_and_hazards.md R240). -/
theorem engineStep_still {s : State} (h : s.engBusy = false ∨ s.rst = true) : engineStep s = .next s := by
  rcases h with h | h <;> simp [engineStep, h]

theorem completeCommand_ok {s : State} {i : Instr} (h : decode s.engCmd = .ok i) : completeCommand s = exec i s := by
  simp [completeCommand, h]

theorem completeCommand_error {s : State} {e : Reject} (h : decode s.engCmd = .error e) :
    completeCommand s = .next (raiseError .illegal s) := by simp [completeCommand, h]

/-- While `rst` is asserted an input other than a reset changes `readData` at most (spec/70_reset_and_hazards.md R240). -/
theorem inputStep_in_reset {i : Input} {s : State} (h : s.rst = true) (h1 : i ≠ .rstAssert) (h2 : i ≠ .rstRelease) :
    inputStep i s = s ∨ inputStep i s = { s with readData := 0 } := by
  cases i with
  | hostRead off n =>
    simp only [inputStep, h, if_true, hostReadInReset]
    split
    · exact .inl rfl
    · exact .inr rfl
  | hostWrite off n v => exact .inl (by simp [inputStep, h])
  | engine => exact .inl rfl
  | evtPwm => exact .inl (by simp [inputStep, h])
  | evtTm8 => exact .inl (by simp [inputStep, h])
  | rstAssert => exact absurd rfl h1
  | rstRelease => exact absurd rfl h2

/-- The state that `withFetchWord` makes is one in which the engine's completion of that word is the next step. -/
theorem withFetchWord_next (s : State) (nbits w : Nat) :
    (s.withFetchWord nbits w).engBusy = true ∧ (s.withFetchWord nbits w).rst = false ∧
    (s.withFetchWord nbits w).engCmd = BitVec.ofNat 32 (w % 2 ^ nbits) ∧
    (s.withFetchWord nbits w).inputs = .engine :: s.inputs := by
  simp [State.withFetchWord, issueWord, issue]

end Sys2Proof.Machine
end

