-- ==== Sys2Proof/Laws/Window.lean ====
section
/-! SUPPORT. What the operations on the register window can do: the bits of a register word, the register map, the bytes
that a write replaces, and the two outcomes of a host access. A proof cites these and unfolds none of the operations. -/

namespace Sys2Proof.Machine

/-! ### Fields of a word -/

theorem fieldAt_getLsbD {n : Nat} (lsb : Nat) (v : BitVec n) (i : Nat) (hi : i < 32) :
    (fieldAt lsb v).getLsbD i = (decide (lsb ≤ i) && v.getLsbD (i - lsb)) := by
  by_cases h : lsb ≤ i
  · simp only [fieldAt, BitVec.getLsbD_shiftLeft, BitVec.truncate_eq_setWidth, BitVec.getLsbD_setWidth, hi, h,
      decide_true, Bool.true_and, not_lt.2 h, decide_false, Bool.not_false, show i - lsb < 32 by omega]
  · simp only [fieldAt, BitVec.getLsbD_shiftLeft, not_le.1 h, decide_true, Bool.not_true, Bool.and_false,
      Bool.false_and, h, decide_false]

theorem flagAt_getLsbD (k : Nat) (b : Bool) (i : Nat) (hi : i < 32) :
    (flagAt k b).getLsbD i = (decide (i = k) && b) := by
  rw [flagAt, fieldAt_getLsbD _ _ _ hi, BitVec.getLsbD_ofBool]
  by_cases h : i = k
  · subst h; simp
  · by_cases g : k ≤ i
    · simp [h, show i - k ≠ 0 by omega]
    · simp [h, g]

/-- STATUS bit by bit (spec/10_state.md R25). -/
theorem statusWord_getLsbD (s : State) (i : Nat) (hi : i < 32) :
    (statusWord s).getLsbD i =
      (decide (i = 0) && s.engBusy || decide (i = 1) && s.done || decide (i = 2) && s.err ||
        decide (i = 3) && s.moveDone || decide (i = 4) && s.fallback || decide (i = 5) && irq s ||
        decide (8 ≤ i) && s.errCode.bits.getLsbD (i - 8)) := by
  simp only [statusWord, BitVec.getLsbD_or, fieldAt_getLsbD _ _ _ hi, flagAt_getLsbD _ _ _ hi]

/-- CTRL bit by bit (spec/10_state.md R28). -/
theorem ctrlWord_getLsbD (c : Ctrl) (i : Nat) (hi : i < 32) :
    c.word.getLsbD i =
      (decide (i = 0) && c.ieDone || decide (i = 1) && c.ieErr || decide (i = 2) && c.ieMove ||
        decide (4 ≤ i) && c.pwmCorr.getLsbD (i - 4) || decide (6 ≤ i) && c.tm8Corr.getLsbD (i - 6) ||
        decide (i = 8) && c.pwmOdd || decide (i = 9) && c.dparEn || decide (i = 10) && c.tm8Depth) := by
  simp only [Ctrl.word, BitVec.getLsbD_or, fieldAt_getLsbD _ _ _ hi, flagAt_getLsbD _ _ _ hi]

/-- SOLVE and PWM_PORT bit by bit (spec/10_state.md R34, R39). -/
theorem solveWord_getLsbD (x : SolveReg) (i : Nat) (hi : i < 32) :
    x.word.getLsbD i =
      (decide (0 ≤ i) && x.psc.getLsbD (i - 0) || decide (8 ≤ i) && x.scalar.getLsbD (i - 8) ||
        decide (16 ≤ i) && x.bound.getLsbD (i - 16)) := by
  simp only [SolveReg.word, BitVec.getLsbD_or, fieldAt_getLsbD _ _ _ hi]

/-- TM8_PORT bit by bit (spec/10_state.md R40). -/
theorem tm8Word_getLsbD (x : Tm8Port) (i : Nat) (hi : i < 32) :
    x.word.getLsbD i =
      (decide (0 ≤ i) && x.psc.getLsbD (i - 0) || decide (8 ≤ i) && x.scalar.getLsbD (i - 8) ||
        decide (16 ≤ i) && x.bound.getLsbD (i - 16) || decide (i = 24) && x.mode.bit ||
        decide (i = 25) && x.depth) := by
  simp only [Tm8Port.word, BitVec.getLsbD_or, fieldAt_getLsbD _ _ _ hi, flagAt_getLsbD _ _ _ hi]

/-- STP_STATE bit by bit (spec/10_state.md R44). -/
theorem stpWord_getLsbD (x : StpState) (i : Nat) (hi : i < 32) :
    x.word.getLsbD i =
      (decide (0 ≤ i) && x.mode.bits.getLsbD (i - 0) || decide (i = 4) && x.src.bit || decide (i = 5) && x.dir ||
        decide (i = 6) && x.distMode || decide (i = 7) && x.isMoving || decide (i = 8) && x.armed ||
        decide (i = 9) && x.periodState || decide (i = 12) && x.pinEn || decide (i = 13) && x.pinOe) := by
  simp only [StpState.word, BitVec.getLsbD_or, fieldAt_getLsbD _ _ _ hi, flagAt_getLsbD _ _ _ hi]

/-- RUN bit by bit (spec/10_state.md R38). -/
theorem runWord_getLsbD (s : State) (i : Nat) (hi : i < 32) :
    (runWord s).getLsbD i = (decide (i = 0) && s.pwmRun || decide (i = 1) && s.tm8Run) := by
  simp only [runWord, BitVec.getLsbD_or, flagAt_getLsbD _ _ _ hi]

/-! ### The register map -/

@[simp] theorem regAt_offset (r : Reg) : regAt r.offset = some r := by cases r <;> rfl

theorem offset_of_regAt {o : Nat} {r : Reg} (h : regAt o = some r) : r.offset = o := by
  simpa using List.find?_some h

/-- Every register is word aligned and below the reserved offsets (spec/10_state.md R24). -/
theorem offset_aligned (r : Reg) : r.offset % 4 = 0 ∧ r.offset ≤ 0x60 := by cases r <;> decide

/-- No register stands at a reserved offset (spec/10_state.md R24). -/
theorem regAt_reserved {o : Nat} (h : 0x64 ≤ o) : regAt o = none := by
  cases hr : regAt o with
  | none => rfl
  | some r =>
    have := offset_of_regAt hr
    have := (offset_aligned r).2
    omega

/-! ### Bytes replaced by a write -/

/-- What an access of n bytes at byte j leaves in each bit (spec/20_memory.md R72, R73). -/
theorem mergeBytes_getLsbD (old v : Word) (j : Nat) (n : AccessSize) (i : Nat) (hi : i < 32) :
    (mergeBytes old j n v).getLsbD i =
      if 8 * j ≤ i ∧ i < 8 * (j + n.bytes) then v.getLsbD (i - 8 * j) else old.getLsbD i := by
  unfold mergeBytes laneMask
  simp only [BitVec.getLsbD_or, BitVec.getLsbD_and, BitVec.getLsbD_not, BitVec.getLsbD_shiftLeft, hi,
    BitVec.getLsbD_ofNat, Nat.testBit_two_pow_sub_one, decide_true, Bool.true_and]
  split_ifs with h
  · simp [show ¬ i < 8 * j by omega, show i - 8 * j < 32 by omega, show i - 8 * j < 8 * n.bytes by omega]
  · by_cases h1 : i < 8 * j
    · simp [h1]
    · simp [show ¬ i - 8 * j < 8 * n.bytes by omega]

/-- An aligned access lies within one register (spec/20_memory.md R71). -/
theorem aligned_fits {j : Nat} {n : AccessSize} (hj : j < 4) (h : j % n.bytes = 0) : j + n.bytes ≤ 4 := by
  cases n <;> simp only [AccessSize.bytes] at * <;> omega

/-! ### Host accesses -/

theorem windowOffset_inside {o : Nat} (h : o < 128) : windowOffset (o : Int) = some o := by
  unfold windowOffset
  rw [if_pos (by omega), Int.toNat_natCast]

theorem windowOffset_outside {off : Int} (h : off < 0 ∨ 128 ≤ off) : windowOffset off = none := by
  unfold windowOffset
  rw [if_neg (by omega)]

/-- An aligned host write to a register is `writeReg` (spec/20_memory.md R73). -/
theorem hostWrite_register (r : Reg) (j : Nat) (n : AccessSize) (v : Word) (s : State) (hj : j < 4)
    (ha : j % n.bytes = 0) : hostWrite ((r.offset + j : Nat) : Int) n v s = writeReg r j n v s := by
  obtain ⟨h1, h2⟩ := offset_aligned r
  have hm : misaligned (r.offset + j) n = false := by
    simp only [misaligned, bne_eq_false_iff_eq]
    cases n <;> simp only [AccessSize.bytes] at * <;> omega
  simp only [hostWrite, windowOffset_inside (show r.offset + j < 128 by omega), hm, writeWindow]
  rw [show r.offset + j - (r.offset + j) % 4 = r.offset by omega, regAt_offset,
    show (r.offset + j) % 4 = j by omega]
  simp only [Bool.false_eq_true, if_false]

/-- What a host write to a register leaves as it is, whatever the register: every result and port register, the stepper
state and its counters, and the inputs (spec/10_state.md R23, R24). -/
theorem writeReg_frame (r : Reg) (j : Nat) (n : AccessSize) (v : Word) (s : State) :
    writeReg r j n v s = { s with
      done := (writeReg r j n v s).done, err := (writeReg r j n v s).err, errCode := (writeReg r j n v s).errCode
      moveDone := (writeReg r j n v s).moveDone, ctrl := (writeReg r j n v s).ctrl, cmd := (writeReg r j n v s).cmd
      opa := (writeReg r j n v s).opa, opb := (writeReg r j n v s).opb, clkPwm := (writeReg r j n v s).clkPwm
      clkTm8 := (writeReg r j n v s).clkTm8, pwmRun := (writeReg r j n v s).pwmRun
      tm8Run := (writeReg r j n v s).tm8Run, stpUpr := (writeReg r j n v s).stpUpr
      stpSpr := (writeReg r j n v s).stpSpr, engBusy := (writeReg r j n v s).engBusy
      engCmd := (writeReg r j n v s).engCmd, snap := (writeReg r j n v s).snap } := by
  cases r <;> (try rfl) <;> simp only [writeReg, issue] <;> split_ifs <;> rfl

/-- A host write leaves the state as it is, reports BUS, or writes one register (spec/20_memory.md R71 to R75). -/
theorem hostWrite_cases (off : Int) (n : AccessSize) (v : Word) (s : State) :
    hostWrite off n v s = s ∨ hostWrite off n v s = setError .bus s ∨
      ∃ r j, hostWrite off n v s = writeReg r j n v s := by
  unfold hostWrite
  split
  · exact .inl rfl
  · split
    · exact .inr (.inl rfl)
    · unfold writeWindow
      split
      · exact .inr (.inr ⟨_, _, rfl⟩)
      · exact .inl rfl

/-- A host read leaves the state as it is, or changes `readData` alone, or reports BUS and reads 0 (spec/20_memory.md R71
to R76). -/
theorem hostRead_cases (off : Int) (n : AccessSize) (s : State) :
    hostRead off n s = s ∨ hostRead off n s = { setError .bus s with readData := 0 } ∨
      ∃ o, hostRead off n s = { s with readData := readWindow o n s } := by
  unfold hostRead
  split
  · exact .inl rfl
  · split
    · exact .inr (.inl rfl)
    · exact .inr (.inr ⟨_, rfl⟩)

end Sys2Proof.Machine
end

