-- ==== Sys2Proof/Tests/Slice0.lean ====
section
/-! SUPPORT. Tests of the model on fixed values, each from the spec: an encoding of spec/30_encoding.md written out bit by
bit, a vector V<n> of spec/95_test_vectors.md, or a witness that the hypotheses of a statement can be met. -/

namespace Sys2Proof.Tests

-- One proof at a time: the proofs of many small theorems at once need more memory than the check allows.
set_option Elab.async false

open Sys2Proof Sys2Proof.Machine Sys2Proof.Claims

/-- The next state, if the outcome is one. -/
def after (o : Host.Outcome State Fault Refusal) : Option State :=
  match o with
  | .next s => some s
  | .fault _ => none
  | .refused _ => none

/-- The state that one step makes of `s` with command word `w` issued. -/
def ran (w : Nat) (s : State) : Option State := after (step (s.withFetchWord 32 w))

/-- The reset state with operands. -/
def operands (a b : Nat) : State := { State.reset with opa := BitVec.ofNat 32 a, opb := BitVec.ofNat 32 b }

/-- A stepper state: mode, source, and whether the driver is enabled. -/
def stepper (m : StpMode) (src : Channel) (en : Bool) : StpState :=
  { mode := m, src := src, dir := false, distMode := false, isMoving := m == .movingCont || m == .movingDist,
    armed := m == .movingDist, periodState := false, pinEn := en, pinOe := m != .uninit }

/-- A state with stepper mode `m` bound to `src`, operand A, STP_UPR and STP_SPR. -/
def stepperAt (m : StpMode) (src : Channel) (a upr spr : Nat) : State :=
  { State.reset with
    opa := BitVec.ofNat 32 a, stpUpr := BitVec.ofNat 16 upr, stpSpr := BitVec.ofNat 16 spr
    stp := stepper m src (m == .enabled || m == .movingCont || m == .movingDist || m == .stopped) }

/-- The same with its command issued, for statements about `exec`. -/
def issued (s : State) : State := { s with engBusy := true, snap := takeSnapshot s }

/-- A move in progress: source, STP_REVS, STP_CUR, STP_FINAL, STP_MSPR. -/
def moving (src : Channel) (revs cur fin mspr : Nat) : State :=
  { State.reset with
    stp := { stepper .movingDist src true with distMode := true }
    stpRevs := BitVec.ofNat 16 revs, stpCur := BitVec.ofNat 16 cur, stpFinal := BitVec.ofNat 16 fin
    stpMspr := BitVec.ofNat 16 mspr }

/-- A state whose steps still to come are `l`. -/
def withInputs (l : List Input) (s : State) : State := { s with inputs := l }

/-! ### WellFormed: an ill-formed word for each check -/

/-- R91: CMD[31:9] not zero, the word of V39. -/
theorem test_wellFormed_refuses_reserved_bits :
    reservedClear 0x00000A01 = false ∧ opcodeAssigned 0x00000A01 = true ∧ wordWellFormed 0x00000A01 = false := by decide

/-- R96: the reserved MUL24 opcode, the word of V39. -/
theorem test_wellFormed_refuses_unassigned_opcode :
    reservedClear 0x0000000A = true ∧ opcodeAssigned 0x0000000A = false ∧ wordWellFormed 0x0000000A = false := by decide

theorem test_wellFormed_accepts_div16 : wordWellFormed 0x00000102 = true := by decide

/-! ### Decode: every command from its word, RSV then APPLY then OPC (R91, R92) -/

theorem test_decode_nop : decode (0#23 ++ 0b1#1 ++ 0b00000000#8 : BitVec 32) = .ok (.nop true) := by decide

theorem test_decode_div8 : decode (0#23 ++ 0b0#1 ++ 0b00000001#8 : BitVec 32) = .ok (.div8 false) := by decide

theorem test_decode_div16 : decode (0#23 ++ 0b1#1 ++ 0b00000010#8 : BitVec 32) = .ok (.div16 true) := by decide

theorem test_decode_div24 : decode (0#23 ++ 0b0#1 ++ 0b00000011#8 : BitVec 32) = .ok (.div24 false) := by decide

theorem test_decode_div32 : decode (0#23 ++ 0b1#1 ++ 0b00000100#8 : BitVec 32) = .ok (.div32 true) := by decide

theorem test_decode_mul8 : decode (0#23 ++ 0b0#1 ++ 0b00001000#8 : BitVec 32) = .ok (.mul8 false) := by decide

theorem test_decode_mul16 : decode (0#23 ++ 0b1#1 ++ 0b00001001#8 : BitVec 32) = .ok (.mul16 true) := by decide

theorem test_decode_pwmSolve : decode (0#23 ++ 0b0#1 ++ 0b00010000#8 : BitVec 32) = .ok (.pwmSolve false) := by decide

theorem test_decode_pwmSolveDuty : decode (0#23 ++ 0b1#1 ++ 0b00010001#8 : BitVec 32) = .ok (.pwmSolveDuty true) := by decide

theorem test_decode_tm8Solve : decode (0#23 ++ 0b0#1 ++ 0b00011000#8 : BitVec 32) = .ok (.tm8Solve false) := by decide

theorem test_decode_tm8Duty : decode (0#23 ++ 0b1#1 ++ 0b00011001#8 : BitVec 32) = .ok (.tm8Duty true) := by decide

theorem test_decode_stpInit : decode (0#23 ++ 0b0#1 ++ 0b00100000#8 : BitVec 32) = .ok (.stpInit false) := by decide

theorem test_decode_stpEnable : decode (0#23 ++ 0b1#1 ++ 0b00100001#8 : BitVec 32) = .ok (.stpEnable true) := by decide

theorem test_decode_stpSetDir : decode (0#23 ++ 0b0#1 ++ 0b00100010#8 : BitVec 32) = .ok (.stpSetDir false) := by decide

theorem test_decode_stpSetVel : decode (0#23 ++ 0b1#1 ++ 0b00100011#8 : BitVec 32) = .ok (.stpSetVel true) := by decide

theorem test_decode_stpRun : decode (0#23 ++ 0b0#1 ++ 0b00100100#8 : BitVec 32) = .ok (.stpRun false) := by decide

theorem test_decode_stpMove : decode (0#23 ++ 0b1#1 ++ 0b00100101#8 : BitVec 32) = .ok (.stpMove true) := by decide

theorem test_decode_stpStop : decode (0#23 ++ 0b0#1 ++ 0b00100110#8 : BitVec 32) = .ok (.stpStop false) := by decide

theorem test_decode_stpDisable : decode (0#23 ++ 0b1#1 ++ 0b00100111#8 : BitVec 32) = .ok (.stpDisable true) := by decide

theorem test_decode_stpRelease : decode (0#23 ++ 0b0#1 ++ 0b00101000#8 : BitVec 32) = .ok (.stpRelease false) := by decide

theorem test_decode_stpEvent : decode (0#23 ++ 0b1#1 ++ 0b00101001#8 : BitVec 32) = .ok (.stpEvent true) := by decide

/-- R95: the reserved bits are checked before the opcode. -/
theorem test_decode_rejects :
    decode 0x0000020A = .error .reservedBits ∧ decode 0x80000000 = .error .reservedBits ∧
    decode 0x0000002A = .error .unassignedOpcode ∧ decode 0x000000FF = .error .unassignedOpcode := by decide

theorem test_decodeTableWord : decodeTableWord 32 0x119 = some (.tm8Duty true) ∧ decodeTableWord 16 0x0A = none := by decide

/-! ### Commands: one step from a small state -/

/-- V38. -/
theorem test_nop : (ran 0x00 (State.reset)).map (fun s => (statusWord s, s.res0)) = some (0x2, 0) := by decide

/-- V7. -/
theorem test_div8 : (ran 0x01 (operands 0x1FF 0x102)).map (fun s => (s.res0, s.res1, statusWord s)) = some (127, 1, 0x2) := by decide

/-- V8. -/
theorem test_div8_by_zero : (ran 0x01 (operands 17 0x100)).map (fun s => (s.res0, s.res1, statusWord s)) = some (0, 0, 0x206) := by decide

/-- V9. -/
theorem test_div16 : (ran 0x02 (operands 50000 7)).map (fun s => (s.res0, s.res1, statusWord s)) = some (7142, 6, 0x2) := by decide

/-- V15. -/
theorem test_div16_by_zero : (ran 0x02 (operands 9 0)).map (fun s => (s.res0, s.res1, statusWord s)) = some (0, 0, 0x206) := by decide

/-- V16. -/
theorem test_div24 : (ran 0x03 (operands 0xFFFFFF 0x1000)).map (fun s => (s.res0, s.res1, statusWord s)) = some (0xFFF, 0xFFF, 0x2) := by decide

/-- V19. -/
theorem test_div24_by_zero : (ran 0x03 (operands 1000 0x1000000)).map (fun s => (s.res0, s.res1, statusWord s)) = some (0, 0, 0x206) := by decide

/-- V23. -/
theorem test_div32 : (ran 0x04 (operands 0xFFFFFFFE 0xFFFFFFFF)).map (fun s => (s.res0, s.res1, statusWord s)) = some (0, 0xFFFFFFFE, 0x2) := by decide

/-- V20. -/
theorem test_div32_quotient : (ran 0x04 (operands 4000000 14000)).map (fun s => (s.res0, s.res1, statusWord s)) = some (285, 10000, 0x2) := by decide

/-- V32. -/
theorem test_mul8 : (ran 0x08 (operands 0x1FF 2)).map (fun s => (s.res0, s.res1, statusWord s)) = some (510, 0, 0x2) := by decide

/-- V30. -/
theorem test_mul8_largest : (ran 0x08 (operands 255 255)).map (fun s => (s.res0, s.res1, statusWord s)) = some (65025, 0, 0x2) := by decide

/-- V35. -/
theorem test_mul16 : (ran 0x09 (operands 0x10000 5)).map (fun s => (s.res0, s.res1, statusWord s)) = some (0, 0, 0x2) := by decide

/-- V34. -/
theorem test_mul16_largest : (ran 0x09 (operands 65535 65535)).map (fun s => (s.res0, s.res1, statusWord s)) = some (4294836225, 0, 0x2) := by decide

/-- V46, with no APPLY. -/
theorem test_pwmSolve : (ran 0x10 (operands 1000 0)).map (fun s => (s.solve.word, s.ratio, s.resid, s.pwmPort.word)) = some (0x01A41200, 8000, 1, 0) := by decide +kernel

/-- V49 and V70h. -/
theorem test_pwmSolve_fallback : (ran 0x110 (operands 1 0)).map (fun s => (s.solve.word, s.resid, statusWord s, s.pwmPort.word)) = some (0x07FE1F03, 0xFFFFFFFF, 0x12, 0x07FE1F03) := by decide +kernel

/-- V70f. -/
theorem test_pwmSolveDuty : (ran 0x111 (operands 14000 50)).map (fun s => (s.pwmPort.word, s.pwmPduty, s.duty, s.ratio)) = some (0x011C0100, 143, 143, 570) := by decide +kernel

/-- V65: 50 percent of one count rounds to 1 and is clamped to 0. -/
theorem test_pwmSolveDuty_clamped : (ran 0x11 (operands 0 50)).map (fun s => (s.solve.word, s.duty, s.pwmPduty)) = some (0x00001F00, 0, 0) := by decide +kernel

/-- V78: tolerance 1. -/
theorem test_tm8Solve : (ran 0x18 (operands 6500 0)).map (fun s => (s.solve.word, s.ratio, s.resid, s.tm8Port.word)) = some (0x00980100, 307, 1, 0) := by decide +kernel

/-- V72 with APPLY. -/
theorem test_tm8Solve_fallback : (ran 0x118 (operands 1 0)).map (fun s => (s.tm8Port.word, s.ratio, statusWord s)) = some (0x00FF1F03, 31250, 0x12) := by decide +kernel

/-- V86c at depth 64, the first row of V87c from reset. -/
theorem test_tm8Duty : (ran 0x119 ({ operands 0 25 with ctrl := Ctrl.ofWord 0x590 })).map (fun s => (s.solve.word, s.tm8Port.word)) = some (0x000F0000, 0x030F0000) := by decide +kernel

/-- V86a: saturates at 0. -/
theorem test_tm8Duty_zero : (ran 0x19 (operands 0 0)).map (fun s => (s.solve.word, statusWord s)) = some (0, 0x2) := by decide +kernel

/-- V95b. -/
theorem test_stpInit : (ran 0x20 (operands 1 0)).map (fun s => (s.stp.word, runWord s)) = some (0x2011, 0) := by decide +kernel

/-- R175: re-initialising with the other source stops both run bits. -/
theorem test_stpInit_other_source : (ran 0x20 ({ stepperAt .movingCont .pwm 1 0 0 with pwmRun := true, tm8Run := true })).map (fun s => (s.stp.word, runWord s, statusWord s)) = some (0x2011, 0, 0x2) := by decide +kernel

/-- V95h. -/
theorem test_stpEnable : (ran 0x21 (stepperAt .idle .pwm 0 0 0)).map (fun s => (s.stp.word, statusWord s)) = some (0x3002, 0x2) := by decide +kernel

/-- V95c. -/
theorem test_stpEnable_uninit : (ran 0x21 (State.reset)).map (fun s => (s.stp.word, statusWord s)) = some (0, 0x406) := by decide +kernel

/-- V95k. -/
theorem test_stpSetDir : (ran 0x22 (stepperAt .enabled .pwm 0xFFFFFFFF 0 0)).map (fun s => (s.stp.word, directionPin s)) = some (0x3022, some true) := by decide +kernel

/-- V95d. -/
theorem test_stpSetDir_uninit : (ran 0x22 (operands 1 0)).map (fun s => (s.stp.word, statusWord s)) = some (0, 0x406) := by decide +kernel

/-- V95m. -/
theorem test_stpSetVel_pwm : (ran 0x23 (stepperAt .enabled .pwm 600 10 1600)).map (fun s => (s.stpTfreq, s.pwmPort.word, s.pwmPduty, s.stp.word)) = some (1600, 0x02700700, 313, 0x3002) := by decide +kernel

/-- V95o. -/
theorem test_stpSetVel_tm8 : (ran 0x23 (stepperAt .enabled .tm8 120 10 200)).map (fun s => (s.stpTfreq, s.tm8Port.word, s.duty, s.ratio)) = some (40, 0x007C1802, 0, 3125) := by decide +kernel

/-- V95z. -/
theorem test_stpRun : (ran 0x24 (stepperAt .stopped .pwm 0 0 0)).map (fun s => (s.stp.word, runWord s)) = some (0x3083, 1) := by decide +kernel

/-- V95i. -/
theorem test_stpRun_idle : (ran 0x24 (stepperAt .idle .pwm 0 0 0)).map (fun s => (s.stp.word, statusWord s)) = some (0x2001, 0x406) := by decide +kernel

/-- V95s. -/
theorem test_stpMove : (ran 0x25 (stepperAt .enabled .pwm 5 10 1600)).map (fun s => (s.stp.word, s.stpFinal, s.stpMspr, runWord s)) = some (0x31C4, 800, 1600, 1) := by decide +kernel

/-- V95r. -/
theorem test_stpMove_empty : (ran 0x25 (stepperAt .enabled .pwm 0 10 1600)).map (fun s => (s.stp.word, statusWord s, runWord s)) = some (0x3005, 0xA, 0) := by decide +kernel

/-- V95v. -/
theorem test_stpStop : (ran 0x26 ({ stepperAt .movingCont .pwm 0 0 0 with pwmRun := true })).map (fun s => (s.stp.word, runWord s, statusWord s)) = some (0x3005, 0, 0x2) := by decide +kernel

/-- V95g: RUN keeps what the host wrote. -/
theorem test_stpStop_uninit : (ran 0x26 ({ State.reset with pwmRun := true })).map (fun s => (s.stp.word, runWord s, statusWord s)) = some (0, 1, 0x2) := by decide +kernel

/-- V95x. -/
theorem test_stpDisable : (ran 0x27 (stepperAt .stopped .pwm 0 0 0)).map (fun s => (s.stp.word, enablePin s)) = some (0x2001, some false) := by decide +kernel

/-- R184 from a move on the timer. -/
theorem test_stpDisable_moving : (ran 0x27 ({ moving .tm8 1 2 3 4 with tm8Run := true })).map (fun s => (s.stp.word, runWord s, s.stpRevs)) = some (0x2011, 0, 0) := by decide +kernel

/-- V95y. -/
theorem test_stpRelease : (ran 0x28 (stepperAt .stopped .tm8 0 0 0)).map (fun s => (s.stp.word, directionPin s, enablePin s)) = some (0, none, none) := by decide +kernel

/-- V95g. -/
theorem test_stpRelease_uninit : (ran 0x28 (State.reset)).map (fun s => (s.stp.word, statusWord s)) = some (0, 0x2) := by decide +kernel

/-- V96f. -/
theorem test_stpEvent : (ran 0x29 ({ moving .pwm 0 0 1 1600 with pwmRun := true })).map (fun s => (s.stp.word, statusWord s, runWord s)) = some (0x3005, 0xA, 0) := by decide +kernel

/-- V96f in another state. -/
theorem test_stpEvent_ignored : (ran 0x29 (stepperAt .movingCont .pwm 0 0 0)).map (fun s => (s.stp.word, statusWord s)) = some (0x3083, 0x2) := by decide +kernel

/-- V39: reserved bits set, and a reserved opcode. -/
theorem test_illegal :
    (ran 0xA01 (operands 9 3)).map (fun s => (s.res0, statusWord s)) = some (0, 0x106) ∧
    (ran 0x0A (operands 9 3)).map (fun s => (s.res0, statusWord s)) = some (0, 0x106) := by decide

/-! ### Step events -/

/-- V96a. -/
theorem test_event_ends_the_move :
    (after (step (withInputs [.evtPwm] (moving .pwm 0 799 800 1600)))).map
      (fun s => (s.stp.word, s.moveDone, s.stpCur, s.stpMspr)) = some (0x3005, true, 0, 0) := by decide +kernel

/-- V96b. -/
theorem test_event_of_the_other_channel :
    after (step (withInputs [.evtTm8] (moving .pwm 0 799 800 1600))) = some (moving .pwm 0 799 800 1600) := by
  decide +kernel

/-- V96d. -/
theorem test_event_edge_doubling :
    (after (step (withInputs [.evtTm8] (moving .tm8 0 0 9 1600)))).map (fun s => (s.stp.word, s.stpCur)) =
      some (0x33D4, 0) := by decide +kernel

/-- V96e. -/
theorem test_event_ends_a_revolution :
    (after (step (withInputs [.evtPwm] (moving .pwm 2 199 100 200)))).map
      (fun s => (s.stpRevs, s.stpCur, s.stp.mode)) = some (1, 0, .movingDist) := by decide +kernel

/-! ### The window -/

/-- The offsets of R24, in order. -/
theorem test_register_map :
    allRegs.map Reg.offset = (List.range 25).map (4 * ·) ∧ allRegs.map (fun r => regAt r.offset) = allRegs.map some := by
  decide

/-- V100. -/
theorem test_misaligned_read :
    (hostRead 0x02 .word State.reset).readData = 0 ∧ statusWord (hostRead 0x02 .word State.reset) = 0x604 := by
  decide +kernel

/-- V101. -/
theorem test_misaligned_write :
    (hostWrite 0x09 .half 1 State.reset).engBusy = false ∧ statusWord (hostWrite 0x09 .half 1 State.reset) = 0x604 := by
  decide +kernel

/-- V102, the write. -/
theorem test_byte_write_issues :
    (hostWrite 0x08 .byte 0x02 (operands 10 3)).engCmd = 2 ∧ (hostWrite 0x08 .byte 0x02 (operands 10 3)).snap.opb = 3 ∧
    statusWord (hostWrite 0x08 .byte 0x02 (operands 10 3)) = 0x1 := by decide +kernel

/-- V103. -/
theorem test_high_byte_write_stores :
    hostWrite 0x09 .byte 0x01 State.reset = { State.reset with cmd := 0x100 } := by decide +kernel

/-- V104, the second write. -/
theorem test_busy_rejects :
    statusWord (hostWrite 0x08 .word 0x08 (hostWrite 0x08 .word 0x02 State.reset)) = 0x305 ∧
    (hostWrite 0x08 .word 0x08 (hostWrite 0x08 .word 0x02 State.reset)).engCmd = 2 := by decide +kernel

/-- V105. -/
theorem test_reserved_offset :
    hostWrite 0x64 .word 0x1234 State.reset = State.reset ∧ readWindow 0x64 .word State.reset = 0 := by decide +kernel

/-- V106, from STATUS = 0x0000_020E. -/
theorem test_status_write_one_to_clear :
    statusWord (hostWrite 0x00 .byte 0x04
      { State.reset with done := true, err := true, moveDone := true, errCode := .divz }) = 0xA := by decide +kernel

/-- V107. -/
theorem test_interrupt_output :
    statusWord { State.reset with done := true, ctrl := Ctrl.ofWord 0x191 } = 0x22 := by decide +kernel

/-- V108. -/
theorem test_ctrl_reserved_bits : readWindow 0x04 .word (hostWrite 0x04 .word 0xFFFFFFFF State.reset) = 0x7F7 := by
  decide +kernel

/-- V109, and its bytes low byte first (R72). -/
theorem test_upr_reserved_bits :
    readWindow 0x44 .word (hostWrite 0x44 .word 0x00120034 State.reset) = 0x34 ∧
    readWindow 0x0E .half (operands 0x12345678 0) = 0x1234 ∧ readWindow 0x0D .byte (operands 0x12345678 0) = 0x56 := by
  decide +kernel

/-- R240: reset values, and an access while `rst` is asserted. -/
theorem test_reset :
    readWindow 0x04 .word State.reset = 0x190 ∧ readWindow 0x2C .word State.reset = 0x003D0900 ∧
    (after (step (withInputs [.hostWrite 0x08 .word 2] { State.reset with rst := true }))).map (·.engBusy) =
      some false := by decide +kernel

/-- R255: an idle engine in MOVING_DIST is quiescent when no more events are delivered, and not while one is. -/
theorem test_quiescent :
    Quiescent (moving .pwm 1 0 0 2) ∧ RunEnded (moving .pwm 1 0 0 2) ∧
    ¬ Quiescent (withInputs [.evtPwm] (moving .pwm 1 0 0 2)) ∧
    ¬ RunEnded (withInputs [.hostRead 0 .byte] (moving .pwm 1 0 0 2)) := by decide

/-- The cases of log entry 23 by the pseudocode of R131 to R136: HALVE_INC with a target above the clock, and 1 Hz at 4 MHz
with NONE, where r = 4000000 / 64 = 62500 = 32 * 1953 + 4. -/
theorem test_pwmSolve_other_calibrations :
    pwmSolve 8000000 4000000 3 true =
      { reg := { psc := 0, scalar := 0, bound := 0 }, resid := 0, fallback := false, ratio := 1 } ∧
    pwmSolve 1 4000000 0 true =
      { reg := { psc := 3, scalar := 31, bound := 1952 }, resid := 4, fallback := false, ratio := 62500 } := by
  decide +kernel

/-- R153 and R159 at the ends of the ratios that log entry 21 names: accepted at bound 255 with quotient 32. -/
theorem test_toleranceSearch_above_8192 :
    boundAccepted 8193 1 255 = true ∧ boundAccepted 8223 31 255 = true ∧ 8193 / 256 = 32 ∧ 8223 % 256 = 31 := by decide

/-- A bus address is BLOCK_BASE plus an offset (R71, log entry 4). -/
theorem test_bus_address : memRead (Config.blockBase + 0x14) .word = .hostRead 0x14 .word := by
  simp [memRead, offsetOf]

/-! ### Witnesses: the hypotheses of each statement can be met, at the ends of their ranges -/

theorem witness_DecodeIsTheInverseOfEncode :
    decode 0x00000129 = .ok (.stpEvent true) ∧ encode (.nop false) = 0 := by decide

/-- Opcodes at the ends of the gaps of R96. -/
theorem witness_UnlistedOpcodeIsIllegal :
    ∀ w ∈ [0x05, 0x07, 0x0A, 0x0F, 0x12, 0x17, 0x1A, 0x1F, 0x2A, 0x30, 0xFF],
      EngineNext { State.reset with engBusy := true, engCmd := BitVec.ofNat 32 w } ∧
      (BitVec.ofNat 32 w).toNat % 256 ∉ opcodeTable := by decide

theorem witness_StepRunsTheDecodedCommand :
    EngineNext (withInputs [.engine, .evtPwm] { State.reset with engBusy := true, engCmd := 0x129 }) ∧
    decode (withInputs [.engine, .evtPwm] { State.reset with engBusy := true, engCmd := 0x129 }).engCmd =
      .ok (.stpEvent true) := by decide

theorem witness_CompletionEndsEveryCommand :
    EngineNext { State.reset with engBusy := true } ∧
    EngineNext (withInputs [.engine] { State.reset with engBusy := true }) := by decide

theorem witness_IdleEngineHasNoStep :
    State.reset.engBusy = false ∧ State.reset.inputs = [] ∧
    (withInputs [.engine] State.reset).inputs.head? = some .engine := by decide

/-- Both clauses of `EncodedAs`, for every opcode: APPLY set, and the lowest and the highest reserved bit set. -/
theorem witness_EncodedAs :
    ∀ opc ∈ opcodeTable,
      (BitVec.ofNat 32 (opc + 256)).toNat % 256 = opc ∧ (BitVec.ofNat 32 (opc + 256)).toNat / 512 = 0 ∧
      EngineNext { State.reset with engBusy := true, engCmd := BitVec.ofNat 32 (opc + 512) } ∧
      (BitVec.ofNat 32 (opc + 512)).toNat % 256 = opc ∧ (BitVec.ofNat 32 (opc + 512)).toNat / 512 ≠ 0 ∧
      (BitVec.ofNat 32 (opc + 2 ^ 31)).toNat % 256 = opc ∧ (BitVec.ofNat 32 (opc + 2 ^ 31)).toNat / 512 ≠ 0 := by decide

/-- A divisor whose low N bits are 0, and one whose low N bits are 1, at each width. -/
theorem witness_DividesAt :
    (∀ width ∈ [8, 16, 24], (issued (operands 7 (2 ^ width))).snap.opb.toNat % 2 ^ width = 0) ∧
    (issued (operands 7 0)).snap.opb.toNat % 2 ^ 32 = 0 ∧
    (∀ width ∈ [8, 16, 24, 32], (issued (operands 7 1)).snap.opb.toNat % 2 ^ width ≠ 0) := by decide

theorem witness_RestoringDivisionIsFloorDivision :
    (1 ≠ 0 ∧ 255 < 2 ^ 8 ∧ 1 < 2 ^ 8) ∧ (2 ^ 32 - 1 ≠ 0 ∧ 0 < 2 ^ 32 ∧ 2 ^ 32 - 1 < 2 ^ 32) := by decide

theorem witness_MultiplierPathsGiveTheSameProduct : (255 < 2 ^ 8) ∧ (65535 < 2 ^ 16) := by decide

theorem witness_OnlyArithmeticCommandsWriteResults :
    step (withInputs [.evtPwm] State.reset) = .next State.reset ∧ ¬ ResetNext (withInputs [.evtPwm] State.reset) ∧
    ¬ (EngineNext (withInputs [.evtPwm] State.reset) ∧
      ∃ i, decode (withInputs [.evtPwm] State.reset).engCmd = .ok i ∧ WritesArithmeticResults i) :=
  ⟨rfl, by decide, fun h => absurd h.1 (by decide)⟩

/-- A search that finds a scalar, and one that finds none. -/
theorem witness_ScalarSearchFindsTheFirstLeastRemainder :
    scalarSearch true 570 = some ⟨2, 285, 0⟩ ∧ scalarSearch true 0 = none := by decide +kernel

theorem witness_OddSolutionsAreValidConfigurations :
    (pwmSolve 14000 4000000 1 true).fallback = false ∧ (pwmSolve 1 4000000 1 true).fallback = true := by
  decide +kernel

/-- A search that finds a bound at tolerance 1, and one that finds none. -/
theorem witness_ToleranceSearchEqualsItsClosedForm :
    toleranceSearch 307 = some (1, 152) ∧ toleranceSearch 1 = none := by decide +kernel

theorem witness_OnlyFrequencySolvesWriteFallback :
    (step (withInputs [.evtPwm] State.reset) = .next State.reset ∧ ¬ ResetNext (withInputs [.evtPwm] State.reset) ∧
      ¬ (EngineNext (withInputs [.evtPwm] State.reset) ∧
        ∃ i, decode (withInputs [.evtPwm] State.reset).engCmd = .ok i ∧ SolvesFrequency i)) ∧
    (exec (.stpSetVel false) State.reset = .next (raiseError .state State.reset) ∧
      SolvesFrequency (.stpSetVel false)) :=
  ⟨⟨rfl, by decide, fun h => absurd h.1 (by decide)⟩, rfl, false, by simp⟩

theorem witness_ApplyCopiesTheResultsToThePort :
    (∃ t, exec (.pwmSolve true) State.reset = .next t) ∧ (∃ t, exec (.pwmSolveDuty true) State.reset = .next t) ∧
    (∃ t, exec (.tm8Solve true) State.reset = .next t) ∧ (∃ t, exec (.tm8Duty true) State.reset = .next t) ∧
    (∃ t, exec (.stpSetVel false) State.reset = .next t) ∧
    (step (withInputs [.evtPwm] State.reset) = .next State.reset ∧ ¬ ResetNext (withInputs [.evtPwm] State.reset) ∧
      ¬ (EngineNext (withInputs [.evtPwm] State.reset) ∧
        ∃ i, decode (withInputs [.evtPwm] State.reset).engCmd = .ok i ∧ WritesPwmPort i .pwm) ∧
      ¬ (EngineNext (withInputs [.evtPwm] State.reset) ∧
        ∃ i, decode (withInputs [.evtPwm] State.reset).engCmd = .ok i ∧ WritesTm8Port i .pwm)) :=
  ⟨⟨_, rfl⟩, ⟨_, rfl⟩, ⟨_, rfl⟩, ⟨_, rfl⟩, ⟨_, rfl⟩,
   rfl, by decide, fun h => absurd h.1 (by decide), fun h => absurd h.1 (by decide)⟩

/-- Every mode, for the clauses of STP_ENABLE, STP_SET_DIR, STP_RUN, STP_STOP, STP_DISABLE, STP_RELEASE and STP_INIT. -/
theorem witness_stepper_modes :
    (∀ m ∈ [StpMode.uninit, .idle, .enabled, .movingCont, .movingDist, .stopped], (stepperAt m .tm8 1 0 0).stp.mode = m) ∧
    ¬ Startable (stepperAt .movingDist .pwm 0 0 0) ∧ Startable (stepperAt .enabled .pwm 0 0 0) ∧
    Startable (stepperAt .stopped .pwm 0 0 0) := by decide

theorem witness_StpInitBindsAndStopsTheOldAndTheNewSource :
    (if (issued (operands 1 0)).snap.opa.toNat % 2 = 1 then Channel.tm8 else .pwm) = .tm8 ∧
    (if (issued (operands 2 0)).snap.opa.toNat % 2 = 1 then Channel.tm8 else .pwm) = .pwm := by decide

/-- One state for each of the four clauses, and the target frequency of V95m. -/
theorem witness_StpSetVelSolvesForTheBoundSource :
    pulseFrequency ((issued (stepperAt .enabled .pwm 600 10 1600)).snap.opa.toNat % 65536) 1600 10 = 1600 ∧
    (stepperAt .uninit .pwm 600 0 0).stp.mode = .uninit ∧
    ((stepperAt .idle .pwm 600 0 0).stp.mode ≠ .uninit ∧ (issued (stepperAt .idle .pwm 600 0 0)).snap.stpUpr = 0) ∧
    (∀ src ∈ [Channel.pwm, .tm8], (issued (stepperAt .idle src 600 1 0)).stp.mode ≠ .uninit ∧
      (issued (stepperAt .idle src 600 1 0)).snap.stpUpr ≠ 0 ∧ (issued (stepperAt .idle src 600 1 0)).stp.src = src) := by
  decide

/-- One state for each of the five clauses. The last two are a distance just below one step and one just at it. -/
theorem witness_StpMoveStartsAPlannedMove :
    ¬ Startable (issued (stepperAt .idle .pwm 5 10 1600)) ∧
    (Startable (issued (stepperAt .enabled .pwm 5 0 0)) ∧ (issued (stepperAt .enabled .pwm 5 0 0)).snap.stpUpr = 0) ∧
    (Startable (issued (stepperAt .enabled .pwm 5 10 0)) ∧ (issued (stepperAt .enabled .pwm 5 10 0)).snap.stpUpr ≠ 0 ∧
      (issued (stepperAt .enabled .pwm 5 10 0)).snap.stpSpr = 0) ∧
    (Startable (issued (stepperAt .stopped .pwm 1 3 2)) ∧ (issued (stepperAt .stopped .pwm 1 3 2)).snap.stpUpr ≠ 0 ∧
      (issued (stepperAt .stopped .pwm 1 3 2)).snap.stpSpr ≠ 0 ∧
      (issued (stepperAt .stopped .pwm 1 3 2)).snap.opa.toNat % 65536 / 3 = 0 ∧
      (issued (stepperAt .stopped .pwm 1 3 2)).snap.opa.toNat % 65536 % 3 * 2 / 3 = 0) ∧
    (Startable (issued (stepperAt .stopped .tm8 1 3 3)) ∧ (issued (stepperAt .stopped .tm8 1 3 3)).snap.stpUpr ≠ 0 ∧
      (issued (stepperAt .stopped .tm8 1 3 3)).snap.stpSpr ≠ 0 ∧
      (issued (stepperAt .stopped .tm8 1 3 3)).snap.opa.toNat % 65536 % 3 * 3 / 3 ≠ 0) := by decide

theorem witness_PulseIsOneStepEvent :
    (∀ ch ∈ [Channel.pwm, .tm8], (withInputs [pulseOf ch] (moving .pwm 0 0 1 2)).rst = false ∧
      (withInputs [pulseOf ch] (moving .pwm 0 0 1 2)).inputs.head? = some (pulseOf ch)) ∧
    (EngineNext { moving .pwm 0 0 1 2 with engBusy := true, engCmd := 0x29 } ∧
      decode 0x29 = .ok (.stpEvent false)) := by decide

theorem witness_IgnoredEventsChangeNothing :
    ((withInputs [.evtPwm] (stepperAt .movingCont .pwm 0 0 0)).inputs.head? = some (pulseOf .pwm) ∧
      (stepperAt .movingCont .pwm 0 0 0).stp.mode ≠ .movingDist) ∧
    ((withInputs [.evtTm8] (moving .pwm 0 0 1 2)).inputs.head? = some (pulseOf .tm8) ∧
      Channel.tm8 ≠ (moving .pwm 0 0 1 2).stp.src) ∧
    (stepperAt .stopped .tm8 0 0 0).stp.mode ≠ .movingDist := by decide

/-- V88c and V93: the largest operands, and a move with a remainder. -/
theorem witness_VelocityConvertsToFrequency :
    (65535 < 65536 ∧ 1 ≠ 0) ∧ velToFreq 65535 65535 1 = 71580603 := by decide +kernel

theorem witness_PlanMoveSplitsTheDistance :
    (7 < 65536 ∧ 200 < 65536 ∧ 3 < 65536 ∧ 3 ≠ 0 ∧ 200 ≠ 0) ∧ planMove 7 200 3 = (2, 66) := by decide +kernel

theorem witness_TeardownIsIdempotent :
    (∃ t, exec (.stpStop false) (moving .pwm 1 0 0 2) = .next t) ∧
    (∃ t, exec (.stpDisable false) (moving .pwm 1 0 0 2) = .next t) ∧
    (∃ t, exec (.stpRelease false) (moving .pwm 1 0 0 2) = .next t) := ⟨⟨_, rfl⟩, ⟨_, rfl⟩, ⟨_, rfl⟩⟩

/-- A move of one step on the timer: 2 pulses, with the counts 0, 1 and 2 of pulses that come. -/
theorem witness_MoveEndsAfterExactlyItsPulses :
    ∀ k ∈ [0, 1, 2], ∃ s : State,
      s.rst = false ∧ Startable s ∧ s.snap.stpUpr ≠ 0 ∧ s.snap.stpSpr ≠ 0 ∧
      s.snap.opa.toNat % 65536 / s.snap.stpUpr.toNat = 0 ∧
      s.snap.opa.toNat % 65536 % s.snap.stpUpr.toNat * s.snap.stpSpr.toNat / s.snap.stpUpr.toNat = 1 ∧
      (if s.stp.src = .tm8 then 2 else 1) * (0 * s.snap.stpSpr.toNat + 1) = 2 ∧
      s.inputs = List.replicate k (pulseOf s.stp.src) ++ [.evtPwm] := by
  intro k hk
  refine ⟨withInputs (List.replicate k .evtTm8 ++ [.evtPwm]) (issued (stepperAt .enabled .tm8 1 3 3)), ?_⟩
  revert k
  decide

theorem witness_OnlyEventsInitTeardownSetDirAndResetTouchAMove :
    (withInputs [.evtTm8] (moving .pwm 1 0 0 2)).stp.mode = .movingDist ∧
    (∃ t, step (withInputs [.evtTm8] (moving .pwm 1 0 0 2)) = .next t) ∧
    ¬ ResetNext (withInputs [.evtTm8] (moving .pwm 1 0 0 2)) ∧
    (withInputs [.evtTm8] (moving .pwm 1 0 0 2)).inputs.head? ≠ some (pulseOf .pwm) ∧
    ¬ (EngineNext (withInputs [.evtTm8] (moving .pwm 1 0 0 2)) ∧
      ∃ i, decode (withInputs [.evtTm8] (moving .pwm 1 0 0 2)).engCmd = .ok i ∧
        (EndsMotion i ∨ ∃ a, i = .stpEvent a ∨ i = .stpSetDir a)) :=
  ⟨rfl, ⟨_, rfl⟩, by decide, by decide, fun h => absurd h.1 (by decide)⟩

/-- Two states with the invariant that reset does not reach in one step: a move whose next pulse ends a revolution, and
one with `rst` asserted. -/
theorem witness_EveryStepKeepsTheInvariant :
    (Invariant (withInputs [.evtPwm] (moving .pwm 2 199 100 200)) ∧
      ∃ t, step (withInputs [.evtPwm] (moving .pwm 2 199 100 200)) = .next t) ∧
    (Invariant (withInputs [.rstRelease] { State.reset with rst := true }) ∧
      ∃ t, step (withInputs [.rstRelease] { State.reset with rst := true }) = .next t) :=
  ⟨⟨by decide, _, rfl⟩, by decide, _, rfl⟩

theorem witness_ReadsAreLittleEndian : (0 < 4 ∧ 0 % 2 = 0) ∧ (3 < 4) ∧ (2 < 4 ∧ 2 % 2 = 0) := by decide

/-- A byte at the highest lane, a half word at the higher one, and a word; a register of each kind. -/
theorem witness_WritesAreLittleEndianAndTouchOnlyTheirBytes :
    PlainReadWrite .ctrl ∧ PlainReadWrite .run ∧ ReadOnly .res0 ∧ ReadOnly .stpMspr ∧
    (3 < 4 ∧ 3 % AccessSize.byte.bytes = 0) ∧ (2 < 4 ∧ 2 % AccessSize.half.bytes = 0) ∧
    (0 < 4 ∧ 0 % AccessSize.word.bytes = 0) ∧ (127 < 128) := by decide

/-- The first and the last reserved offset, at each width. -/
theorem witness_ReservedOffsetsAreInert :
    (∀ n ∈ [AccessSize.byte, .half, .word], 0x64 ≤ 0x64 ∧ 0x64 < 0x80 ∧ 0x64 % n.bytes = 0) ∧
    (0x7F < 0x80 ∧ 0x7F % AccessSize.byte.bytes = 0) ∧ (0x7E % AccessSize.half.bytes = 0) ∧
    (0x7C % AccessSize.word.bytes = 0) := by decide

theorem witness_MisalignedAccessReportsBus :
    (1 < 128 ∧ 1 % AccessSize.half.bytes ≠ 0) ∧ (127 < 128 ∧ 127 % AccessSize.half.bytes ≠ 0) ∧
    (126 < 128 ∧ 126 % AccessSize.word.bytes ≠ 0) := by decide

/-- Just outside the window on both sides, and its first and last byte. -/
theorem witness_HostAccessesAreStepsAndReadsHaveNoSideEffect :
    ((withInputs [.hostRead 0x7F .byte] State.reset).rst = false ∧
      (withInputs [.hostRead 0x7F .byte] State.reset).inputs.head? = some (.hostRead 0x7F .byte)) ∧
    (withInputs [.hostWrite (-1) .word 2] State.reset).inputs.head? = some (.hostWrite (-1) .word 2) ∧
    ((-1 : Int) < 0) ∧ ((128 : Int) ≤ 128) ∧ ((0 : Int) ≤ 0 ∧ (0 : Int).toNat % AccessSize.word.bytes = 0) ∧
    ((127 : Int) < 128 ∧ (127 : Int).toNat % AccessSize.byte.bytes = 0) := by decide

theorem witness_WritingCmdIssuesOrIsRejected :
    State.reset.engBusy = false ∧ (issued State.reset).engBusy = true ∧
    (1 % AccessSize.byte.bytes = 0 ∧ 2 % AccessSize.half.bytes = 0 ∧ 3 % AccessSize.byte.bytes = 0) := by decide

/-- The first and the last lane of a narrow write, and the word that covers every lane. -/
theorem witness_ReservedBitsReadZeroAndIgnoreWrites :
    (3 < 4 ∧ 3 % AccessSize.byte.bytes = 0) ∧ (2 < 4 ∧ 2 % AccessSize.half.bytes = 0) ∧
    (0 < 4 ∧ 0 % AccessSize.word.bytes = 0) := by decide

theorem witness_WritingRunChangesOnlyTheRunBits :
    (1 ≤ 1 ∧ 1 % AccessSize.byte.bytes = 0) ∧ (2 < 4 ∧ 2 % AccessSize.half.bytes = 0) ∧
    (3 < 4 ∧ 3 % AccessSize.byte.bytes = 0) := by decide

theorem witness_StatusFlagsAreClearedByWritingOne :
    (1 ≤ 1 ∧ 1 % AccessSize.byte.bytes = 0) ∧ (2 < 4 ∧ 2 % AccessSize.half.bytes = 0) ∧
    (3 < 4 ∧ 3 % AccessSize.byte.bytes = 0) := by decide

theorem witness_SnapshottedRegistersMayBeOverwritten :
    ∀ r ∈ [Reg.ctrl, .opa, .opb, .clkPwm, .clkTm8, .stpUpr, .stpSpr], Snapshotted r := by decide

theorem witness_ResetGivesEveryRegisterItsResetValue :
    (withInputs [.rstAssert] (moving .pwm 1 0 0 2)).inputs.head? = some .rstAssert ∧
    ((withInputs [.hostRead 0 .word] { State.reset with rst := true }).rst = true ∧
      ¬ ResetNext (withInputs [.hostRead 0 .word] { State.reset with rst := true }) ∧
      (withInputs [.hostRead 0 .word] { State.reset with rst := true }).inputs.head? = some (.hostRead 0 .word)) ∧
    ((withInputs [.hostWrite 1 .word 2] { State.reset with rst := true }).rst = true ∧
      ¬ ResetNext (withInputs [.hostWrite 1 .word 2] { State.reset with rst := true }) ∧
      (withInputs [.hostWrite 1 .word 2] { State.reset with rst := true }).inputs.head? =
        some (.hostWrite 1 .word 2)) ∧
    ((withInputs [.rstRelease] { State.reset with rst := true }).rst = true ∧
      (withInputs [.rstRelease] { State.reset with rst := true }).inputs.head? = some .rstRelease) := by decide

end Sys2Proof.Tests
end

section
/-! What a step can be: whose step it is, what an event and a host access leave as they are, and how a command can end.
Every step has a next state (spec/60_exceptions.md R218). -/

namespace Sys2Proof.Machine

open Sys2Proof.Claims

/-! ### Whose step a step is -/

/-- A step is the completion of a legal command, the ILLEGAL completion, the step of an engine that has none, or the
step of another agent by its entry (spec/10_state.md R20). -/
theorem step_cases (s : State) :
    (EngineNext s ∧ ∃ i, decode s.engCmd = .ok i ∧ step s = exec i (entryTaken s)) ∨
    (EngineNext s ∧ step s = .next (raiseError .illegal (entryTaken s))) ∨
    step s = .next (entryTaken s) ∨
    (∃ i, s.inputs.head? = some i ∧ step s = .next (inputStep i (entryTaken s))) := by
  by_cases hturn : s.inputs = [] ∨ s.inputs.head? = some .engine
  · have hstep : step s = engineStep (entryTaken s) := by
      cases hin : s.inputs with
      | nil => rw [step_nil hin]; congr 1; cases s; simp_all [entryTaken]
      | cons i rest =>
        obtain rfl : i = .engine := by simpa [hin] using hturn
        rw [step_engine_cons hin, entryTaken, hin]; rfl
    by_cases hbusy : s.engBusy = true ∧ s.rst = false
    · have hnext : EngineNext s := ⟨hbusy.1, hbusy.2, hturn⟩
      rw [hstep, engineStep_busy (s := entryTaken s) hbusy.1 hbusy.2]
      cases hd : decode s.engCmd with
      | ok i => exact .inl ⟨hnext, i, rfl, completeCommand_ok hd⟩
      | error e => exact .inr (.inl ⟨hnext, completeCommand_error hd⟩)
    · refine .inr (.inr (.inl ?_))
      rw [hstep]
      exact engineStep_still (by simpa [entryTaken, or_iff_not_imp_left] using hbusy)
  · cases hin : s.inputs with
    | nil => exact absurd (.inl hin) hturn
    | cons i rest =>
      have hi : i ≠ .engine := fun h => hturn (.inr (by rw [hin, h]; rfl))
      exact .inr (.inr (.inr ⟨i, rfl, by rw [step_input_cons hin hi, entryTaken, hin]; rfl⟩))

/-- An agent other than the engine resets the block, is ignored, makes an access, or gives an event. -/
theorem inputStep_cases (i : Input) (s : State) :
    ((i = .rstAssert ∨ i = .rstRelease) ∧ ∃ level, inputStep i s = blockReset level s) ∨
    inputStep i s = s ∨ inputStep i s = { s with readData := 0 } ∨
    (∃ off n, inputStep i s = hostRead off n s) ∨ (∃ off n v, inputStep i s = hostWrite off n v s) ∨
    (∃ ch, inputStep i s = stepEvent ch s) := by
  by_cases hassert : i = .rstAssert
  · exact .inl ⟨.inl hassert, true, by rw [hassert]; rfl⟩
  by_cases hrst : s.rst = true
  · by_cases hrelease : i = .rstRelease
    · exact .inl ⟨.inr hrelease, false, by simp [hrelease, inputStep, hrst]⟩
    · rcases inputStep_in_reset hrst hassert hrelease with h | h <;> simp [h]
  · cases i with
    | hostRead off n => exact .inr (.inr (.inr (.inl ⟨off, n, by simp [inputStep, hrst]⟩)))
    | hostWrite off n v => exact .inr (.inr (.inr (.inr (.inl ⟨off, n, v, by simp [inputStep, hrst]⟩))))
    | evtPwm => exact .inr (.inr (.inr (.inr (.inr ⟨.pwm, by simp [inputStep, hrst]⟩))))
    | evtTm8 => exact .inr (.inr (.inr (.inr (.inr ⟨.tm8, by simp [inputStep, hrst]⟩))))
    | engine => exact .inr (.inl rfl)
    | rstRelease => exact .inr (.inl (by simp [inputStep, hrst]))
    | rstAssert => exact absurd rfl hassert

/-! ### What an event and a host access leave as they are -/

/-- A counted event changes the run bits, MOVE_DONE and the stepper registers at most (spec/43_stepper.md R196, R197). -/
theorem countStep_frame (s : State) :
    countStep s = { s with
      pwmRun := (countStep s).pwmRun, tm8Run := (countStep s).tm8Run, moveDone := (countStep s).moveDone
      stpRevs := (countStep s).stpRevs, stpCur := (countStep s).stpCur, stpFinal := (countStep s).stpFinal
      stpMspr := (countStep s).stpMspr, stp := (countStep s).stp } := by
  rcases countStep_cases s with ⟨_, _, _, h⟩ | ⟨_, _, h⟩ | ⟨_, _, _, h⟩ | ⟨_, _, h⟩
  all_goals simp only [h, endOfMove_eq]

/-- So does any event (spec/43_stepper.md R196). -/
theorem stepEvent_frame (ch : Channel) (s : State) :
    stepEvent ch s = { s with
      pwmRun := (stepEvent ch s).pwmRun, tm8Run := (stepEvent ch s).tm8Run, moveDone := (stepEvent ch s).moveDone
      stpRevs := (stepEvent ch s).stpRevs, stpCur := (stepEvent ch s).stpCur, stpFinal := (stepEvent ch s).stpFinal
      stpMspr := (stepEvent ch s).stpMspr, stp := (stepEvent ch s).stp } := by
  rcases stepEvent_cases ch s with ⟨_, h⟩ | ⟨_, _, _, ⟨_, h⟩ | ⟨_, _, h⟩ | ⟨_, _, h⟩⟩
  · rw [h]
  · rw [h]; exact countStep_frame s
  · rw [h]
  · rw [h]; exact countStep_frame { s with stp := { s.stp with periodState := false } }

theorem hostRead_fallback (off : Int) (n : AccessSize) (s : State) : (hostRead off n s).fallback = s.fallback := by
  rcases hostRead_cases off n s with h | h | ⟨o, h⟩ <;> simp only [h, setError_fallback]

theorem hostWrite_fallback (off : Int) (n : AccessSize) (v : Word) (s : State) :
    (hostWrite off n v s).fallback = s.fallback := by
  rcases hostWrite_cases off n v s with h | h | ⟨r, j, h⟩
  · rw [h]
  · rw [h]; rfl
  · rw [h, writeReg_frame]

/-! ### The ends of the solves and of the stepper commands -/

/-- PWM_SOLVE writes its solution and the port at most (spec/41_pwm11.md R138). -/
theorem execPwmSolve_cases (a : Bool) (s : State) : ∃ sol port, sol = requestedPwm s ∧
    execPwmSolve a s = .next (complete { writePwmSolution sol s with pwmPort := port }) := by
  unfold execPwmSolve
  generalize requestedPwm s = sol
  cases a
  · exact ⟨sol, s.pwmPort, rfl, rfl⟩
  · exact ⟨sol, sol.reg, rfl, rfl⟩

/-- PWM_SOLVE_DUTY writes its solution, DUTY and the ports at most (spec/41_pwm11.md R139). -/
theorem execPwmSolveDuty_cases (a : Bool) (s : State) : ∃ sol duty port pduty, sol = requestedPwm s ∧
    execPwmSolveDuty a s = .next (complete { writePwmSolution sol s with
      duty := duty, pwmPort := port, pwmPduty := pduty }) := by
  unfold execPwmSolveDuty
  generalize requestedPwm s = sol
  cases a
  · exact ⟨sol, _, s.pwmPort, s.pwmPduty, rfl, rfl⟩
  · exact ⟨sol, _, sol.reg, _, rfl, rfl⟩

/-- TM8_SOLVE writes its solution and the port at most (spec/42_tm8.md R156). -/
theorem execTm8Solve_cases (a : Bool) (s : State) : ∃ sol port,
    sol = tm8Solve (targetFreq s) s.snap.clkTm8 s.snap.ctrl.tm8Corr ∧
    execTm8Solve a s = .next (complete { writeTm8Solution sol s with tm8Port := port }) := by
  unfold execTm8Solve
  generalize tm8Solve (targetFreq s) s.snap.clkTm8 s.snap.ctrl.tm8Corr = sol
  cases a
  · exact ⟨sol, s.tm8Port, rfl, rfl⟩
  · exact ⟨sol, _, rfl, rfl⟩

/-- TM8_DUTY writes SOLVE and the port at most (spec/42_tm8.md R157). -/
theorem execTm8Duty_cases (a : Bool) (s : State) : ∃ reg port,
    execTm8Duty a s = .next (complete { s with solve := reg, tm8Port := port }) := by
  cases a
  · exact ⟨_, s.tm8Port, rfl⟩
  · exact ⟨_, _, rfl⟩

/-- STP_INIT in one record: the source bound so far, if any, and the selected one are stopped
(spec/43_stepper.md R175). -/
theorem execStpInit_eq (a : Bool) (s : State) :
    execStpInit a s = .next (complete { s with
      pwmRun := if opaSource s = .pwm ∨ s.stp.mode ≠ .uninit ∧ s.stp.src = .pwm then false else s.pwmRun
      tm8Run := if opaSource s = .tm8 ∨ s.stp.mode ≠ .uninit ∧ s.stp.src = .tm8 then false else s.tm8Run
      stpRevs := 0, stpCur := 0, stpFinal := 0, stpMspr := 0
      stp := { mode := .idle, src := opaSource s, dir := false, distMode := false, isMoving := false
               armed := false, periodState := false, pinEn := false, pinOe := true } }) := by
  by_cases hm : s.stp.mode = .uninit <;> cases hs : s.stp.src <;> cases ho : opaSource s <;>
    simp [execStpInit, clearMotion, setRun, hm, hs, ho]

/-- spec/43_stepper.md R176. -/
theorem execStpEnable_cases (a : Bool) (s : State) :
    (s.stp.mode = .uninit ∧ execStpEnable a s = .next (raiseError .state s)) ∨
    (s.stp.mode = .idle ∧
      execStpEnable a s = .next (complete { s with stp := { s.stp with pinEn := true, mode := .enabled } })) ∨
    (s.stp.mode ≠ .uninit ∧ s.stp.mode ≠ .idle ∧ execStpEnable a s = .next (complete s)) := by
  cases hm : s.stp.mode <;> simp [execStpEnable, hm]

/-- spec/43_stepper.md R177. -/
theorem execStpSetDir_cases (a : Bool) (s : State) :
    (s.stp.mode = .uninit ∧ execStpSetDir a s = .next (raiseError .state s)) ∨
    (s.stp.mode ≠ .uninit ∧
      execStpSetDir a s = .next (complete { s with stp := { s.stp with dir := opaBit s } })) := by
  by_cases hm : s.stp.mode = .uninit <;> simp [execStpSetDir, hm]

/-- spec/43_stepper.md R178. -/
theorem execStpSetVel_cases (a : Bool) (s : State) :
    (s.stp.mode = .uninit ∧ execStpSetVel a s = .next (raiseError .state s)) ∨
    (s.stp.mode ≠ .uninit ∧ unitsPerRev s = 0 ∧ execStpSetVel a s = .next (raiseError .divz s)) ∨
    (s.stp.mode ≠ .uninit ∧ unitsPerRev s ≠ 0 ∧
      ∃ tf, execStpSetVel a s = .next (complete (applyVelocity tf { s with stpTfreq := tf }))) := by
  unfold execStpSetVel
  by_cases hm : s.stp.mode = .uninit
  · exact .inl ⟨hm, if_pos hm⟩
  · rw [if_neg hm]
    by_cases hu : unitsPerRev s = 0
    · exact .inr (.inl ⟨hm, hu, if_pos hu⟩)
    · exact .inr (.inr ⟨hm, hu, _, if_neg hu⟩)

/-- spec/43_stepper.md R180. -/
theorem execStpRun_cases (a : Bool) (s : State) :
    (canStart s.stp.mode = false ∧ execStpRun a s = .next (raiseError .state s)) ∨
    (canStart s.stp.mode = true ∧ execStpRun a s = .next (complete (setRun s.stp.src true { clearMotion s with
      stp := { (clearMotion s).stp with isMoving := true, mode := .movingCont } }))) := by
  cases hc : canStart s.stp.mode <;> simp [execStpRun, hc]

/-- spec/43_stepper.md R181. -/
theorem execStpMove_cases (a : Bool) (s : State) :
    (canStart s.stp.mode = false ∧ execStpMove a s = .next (raiseError .state s)) ∨
    (canStart s.stp.mode = true ∧ unitsPerRev s = 0 ∧ execStpMove a s = .next (raiseError .divz s)) ∨
    (canStart s.stp.mode = true ∧ unitsPerRev s ≠ 0 ∧ stepsPerRev s = 0 ∧
      execStpMove a s = .next (raiseError .config s)) ∨
    (canStart s.stp.mode = true ∧ unitsPerRev s ≠ 0 ∧ stepsPerRev s ≠ 0 ∧
      ∃ revs fin, execStpMove a s = .next (complete (startMove revs fin (clearMotion s)))) := by
  unfold execStpMove
  cases hc : canStart s.stp.mode with
  | false => exact .inl ⟨rfl, if_pos rfl⟩
  | true =>
    rw [if_neg (by decide)]
    by_cases hu : unitsPerRev s = 0
    · exact .inr (.inl ⟨rfl, hu, if_pos hu⟩)
    · rw [if_neg hu]
      by_cases hp : stepsPerRev s = 0
      · exact .inr (.inr (.inl ⟨rfl, hu, hp, if_pos hp⟩))
      · exact .inr (.inr (.inr ⟨rfl, hu, hp, _, _, if_neg hp⟩))

/-- The source stopped and the motion cleared, with which STP_STOP, STP_DISABLE and STP_RELEASE begin
(spec/43_stepper.md R183 to R185). -/
def motionStopped (s : State) : State := clearMotion (setRun s.stp.src false s)

/-- spec/43_stepper.md R183. -/
theorem execStpStop_cases (a : Bool) (s : State) :
    (s.stp.mode = .uninit ∧ execStpStop a s = .next (complete s)) ∨
    (isMovingMode s.stp.mode = true ∧ execStpStop a s = .next (complete (setMode .stopped (motionStopped s)))) ∨
    (s.stp.mode ≠ .uninit ∧ isMovingMode s.stp.mode = false ∧
      execStpStop a s = .next (complete (motionStopped s))) := by
  cases hm : s.stp.mode <;> simp [execStpStop, motionStopped, isMovingMode, hm]

/-- spec/43_stepper.md R184. -/
theorem execStpDisable_cases (a : Bool) (s : State) :
    (s.stp.mode = .uninit ∧ execStpDisable a s = .next (complete s)) ∨
    (s.stp.mode ≠ .uninit ∧ execStpDisable a s = .next (complete { motionStopped s with
      stp := { (motionStopped s).stp with pinEn := false, mode := .idle } })) := by
  by_cases hm : s.stp.mode = .uninit <;> simp [execStpDisable, motionStopped, hm]

/-- spec/43_stepper.md R185. -/
theorem execStpRelease_cases (a : Bool) (s : State) :
    (s.stp.mode = .uninit ∧ execStpRelease a s = .next (complete s)) ∨
    (s.stp.mode ≠ .uninit ∧ execStpRelease a s = .next (complete { motionStopped s with
      stp := { (motionStopped s).stp with
        pinEn := false, pinOe := false, dir := false, src := .pwm, mode := .uninit } })) := by
  by_cases hm : s.stp.mode = .uninit <;> simp [execStpRelease, motionStopped, hm]

/-! ### How a command can end -/

/-- A command reports an error and changes nothing else, or completes; then it keeps ERR and ERRCODE, and all but the
frequency solves keep FALLBACK (spec/60_exceptions.md R213, R214, spec/10_state.md R27). -/
theorem exec_cases (i : Instr) (s : State) :
    (∃ c, (c = .state ∨ c = .divz ∨ c = .config) ∧ exec i s = .next (raiseError c s)) ∨
    (∃ u, exec i s = .next (complete u) ∧ u.err = s.err ∧ u.errCode = s.errCode ∧
      (SolvesFrequency i ∨ u.fallback = s.fallback)) := by
  cases i with
  | nop a | mul8 a | mul16 a => exact .inr ⟨_, rfl, rfl, rfl, .inr rfl⟩
  | div8 a | div16 a | div24 a | div32 a =>
    simp only [exec, execDiv8, execDiv16, execDiv24, execDiv32]
    rcases divide_cases _ s with ⟨_, h⟩ | ⟨_, h⟩ <;> rw [h]
    · exact .inl ⟨_, .inr (.inl rfl), rfl⟩
    · exact .inr ⟨_, rfl, rfl, rfl, .inr rfl⟩
  | pwmSolve a =>
    obtain ⟨sol, port, hsol, h⟩ := execPwmSolve_cases a s
    exact .inr ⟨_, h, rfl, rfl, .inl ⟨a, by simp⟩⟩
  | pwmSolveDuty a =>
    obtain ⟨sol, duty, port, pduty, hsol, h⟩ := execPwmSolveDuty_cases a s
    exact .inr ⟨_, h, rfl, rfl, .inl ⟨a, by simp⟩⟩
  | tm8Solve a =>
    obtain ⟨sol, port, hsol, h⟩ := execTm8Solve_cases a s
    exact .inr ⟨_, h, rfl, rfl, .inl ⟨a, by simp⟩⟩
  | tm8Duty a =>
    obtain ⟨reg, port, h⟩ := execTm8Duty_cases a s
    exact .inr ⟨_, h, rfl, rfl, .inr rfl⟩
  | stpInit a => exact .inr ⟨_, execStpInit_eq a s, rfl, rfl, .inr rfl⟩
  | stpEnable a =>
    rcases execStpEnable_cases a s with ⟨_, h⟩ | ⟨_, h⟩ | ⟨_, _, h⟩
    · exact .inl ⟨_, .inl rfl, h⟩
    · exact .inr ⟨_, h, rfl, rfl, .inr rfl⟩
    · exact .inr ⟨_, h, rfl, rfl, .inr rfl⟩
  | stpSetDir a =>
    rcases execStpSetDir_cases a s with ⟨_, h⟩ | ⟨_, h⟩
    · exact .inl ⟨_, .inl rfl, h⟩
    · exact .inr ⟨_, h, rfl, rfl, .inr rfl⟩
  | stpSetVel a =>
    rcases execStpSetVel_cases a s with ⟨_, h⟩ | ⟨_, _, h⟩ | ⟨_, _, tf, h⟩
    · exact .inl ⟨_, .inl rfl, h⟩
    · exact .inl ⟨_, .inr (.inl rfl), h⟩
    · exact .inr ⟨_, h, by rw [applyVelocity_frame], by rw [applyVelocity_frame], .inl ⟨a, by simp⟩⟩
  | stpRun a =>
    rcases execStpRun_cases a s with ⟨_, h⟩ | ⟨_, h⟩
    · exact .inl ⟨_, .inl rfl, h⟩
    · exact .inr ⟨_, h, by simp, by simp, .inr (by simp)⟩
  | stpMove a =>
    rcases execStpMove_cases a s with ⟨_, h⟩ | ⟨_, _, h⟩ | ⟨_, _, _, h⟩ | ⟨_, _, _, revs, fin, h⟩
    · exact .inl ⟨_, .inl rfl, h⟩
    · exact .inl ⟨_, .inr (.inl rfl), h⟩
    · exact .inl ⟨_, .inr (.inr rfl), h⟩
    · refine .inr ⟨_, h, ?_⟩
      rcases startMove_cases revs fin (clearMotion s) with ⟨_, _, hm⟩ | ⟨_, hm⟩ <;> simp [hm]
  | stpStop a =>
    rcases execStpStop_cases a s with ⟨_, h⟩ | ⟨_, h⟩ | ⟨_, _, h⟩ <;>
      exact .inr ⟨_, h, by simp [motionStopped], by simp [motionStopped], .inr (by simp [motionStopped])⟩
  | stpDisable a =>
    rcases execStpDisable_cases a s with ⟨_, h⟩ | ⟨_, h⟩ <;>
      exact .inr ⟨_, h, by simp [motionStopped], by simp [motionStopped], .inr (by simp [motionStopped])⟩
  | stpRelease a =>
    rcases execStpRelease_cases a s with ⟨_, h⟩ | ⟨_, h⟩ <;>
      exact .inr ⟨_, h, by simp [motionStopped], by simp [motionStopped], .inr (by simp [motionStopped])⟩
  | stpEvent a =>
    exact .inr ⟨_, rfl, by rw [stepEvent_frame], by rw [stepEvent_frame], .inr (by rw [stepEvent_frame])⟩

/-- No command faults or is refused (spec/60_exceptions.md R218). -/
theorem exec_next (i : Instr) (s : State) : ∃ t, exec i s = .next t := by
  rcases exec_cases i s with ⟨c, _, h⟩ | ⟨u, h, _⟩ <;> exact ⟨_, h⟩

/-- No step does (spec/60_exceptions.md R218). -/
theorem step_next (s : State) : ∃ t, step s = .next t := by
  rcases step_cases s with ⟨_, i, _, h⟩ | ⟨_, h⟩ | h | ⟨i, _, h⟩
  · obtain ⟨t, ht⟩ := exec_next i (entryTaken s)
    exact ⟨t, h.trans ht⟩
  all_goals exact ⟨_, h⟩

end Sys2Proof.Machine
end

section
/-! What a host write to STATUS clears (spec/10_state.md R26). -/

namespace Sys2Proof.Machine

open Sys2Proof.Claims

/-- Bit k of a word in plain arithmetic. -/
theorem getLsbD_eq_decide (v : Word) (k : Nat) : v.getLsbD k = decide (v.toNat / 2 ^ k % 2 = 1) := by
  rw [BitVec.getLsbD, Nat.testBit_eq_decide_div_mod_eq]

/-- The write in the words of R26: each flag by its bit of the written value. -/
theorem clearStatus_eq (v : Word) (s : State) :
    clearStatus v s = { s with
      done := if v.toNat / 2 % 2 = 1 then false else s.done
      err := if v.toNat / 4 % 2 = 1 then false else s.err
      errCode := if v.toNat / 4 % 2 = 1 then .none else s.errCode
      moveDone := if v.toNat / 8 % 2 = 1 then false else s.moveDone } := by
  have hflag (b : Bool) (k : Nat) : (b && !v.getLsbD k) = if v.toNat / 2 ^ k % 2 = 1 then false else b := by
    rw [getLsbD_eq_decide]; split_ifs with h <;> simp [h]
  rw [clearStatus, hflag _ 1, hflag _ 2, hflag _ 3, getLsbD_eq_decide]
  simp

/-- Settles O56: an aligned write at byte j of STATUS is `clearStatus` at byte 0 and nothing at the others. -/
theorem statusFlagsAreClearedByWritingOne : Obligations.StatusFlagsAreClearedByWritingOne := by
  intro s n v
  constructor
  · have hwrite := hostWrite_register .status 0 n v s (by omega) (Nat.zero_mod _)
    rw [← clearStatus_eq]
    exact hwrite
  · intro o h1 h4 haligned
    have hwrite := hostWrite_register .status o n v s h4 haligned
    rw [show Reg.offset .status + o = o from Nat.zero_add o] at hwrite
    rw [hwrite, writeReg, if_neg (by omega)]

end Sys2Proof.Machine
end

section
/-! Who writes FALLBACK, and the mark that RESID then holds (spec/10_state.md R27, R36). -/

namespace Sys2Proof.Machine

open Sys2Proof.Claims

/-- RESID holds the fallback mark exactly while FALLBACK is 1. -/
def FallbackMarked (s : State) : Prop := s.fallback = true ↔ s.resid = 0xFFFFFFFF

/-- A remainder that a search accepts is not the fallback mark. -/
theorem ofNat_ne_mark {n : Nat} (h : n < 32) : BitVec.ofNat 32 n ≠ 0xFFFFFFFF := by
  bv_omega

/-- The scalar search replaces its candidate only by one with a smaller remainder, and starts from 32
(spec/41_pwm11.md R134). -/
theorem tryScalar_remainder_lt {odd : Bool} {r s : Nat} {best : Option Candidate}
    (h : ∀ c ∈ best, c.remainder < 32) : ∀ c ∈ tryScalar odd r best s, c.remainder < 32 := by
  have hbest : bestSoFar best ≤ 32 := by
    cases best with
    | none => exact le_rfl
    | some c => exact (h c rfl).le
  unfold tryScalar
  split_ifs with hs
  · rintro c ⟨⟩
    exact hs.1.trans_le hbest
  · exact h

theorem foldl_tryScalar_remainder_lt {odd : Bool} {r : Nat} (l : List Nat) :
    ∀ best : Option Candidate, (∀ c ∈ best, c.remainder < 32) →
      ∀ c ∈ l.foldl (tryScalar odd r) best, c.remainder < 32 := by
  induction l with
  | nil => exact fun _ h => h
  | cons s l ih => exact fun best h => ih _ (tryScalar_remainder_lt h)

theorem scalarSearch_remainder_lt (odd : Bool) (r : Nat) : ∀ c ∈ scalarSearch odd r, c.remainder < 32 := by
  rw [scalarSearch_eq]
  exact foldl_tryScalar_remainder_lt _ none (by simp)

/-- An accepted tolerance is one of the 32 tried (spec/42_tm8.md R153). -/
theorem toleranceSearch_tolerance_lt {r tol bd : Nat} (h : toleranceSearch r = some (tol, bd)) : tol < 32 := by
  obtain ⟨tol', hmem, hfound⟩ := List.exists_of_findSome?_eq_some h
  obtain ⟨bd', _, hpair⟩ := Option.map_eq_some_iff.1 hfound
  cases hpair
  exact List.mem_range.1 hmem

/-- The 11-bit solver marks its fallback in the residual (spec/41_pwm11.md R135). -/
theorem pwmSolve_fallback_iff (t clk : Word) (cm : BitVec 2) (odd : Bool) :
    (pwmSolve t clk cm odd).fallback = true ↔ (pwmSolve t clk cm odd).resid = 0xFFFFFFFF := by
  simp only [pwmSolve, encodePwm]
  cases hfound : scalarSearch odd (pwmBoosted t clk cm).1.toNat with
  | none => simp [pwmResidual]
  | some c => simpa [pwmResidual] using ofNat_ne_mark (scalarSearch_remainder_lt _ _ c hfound)

theorem requestedPwm_fallback_iff (s : State) :
    (requestedPwm s).fallback = true ↔ (requestedPwm s).resid = 0xFFFFFFFF := by
  unfold requestedPwm
  exact pwmSolve_fallback_iff ..

/-- So does the 8-bit timer solver (spec/42_tm8.md R154). -/
theorem tm8Solve_fallback_iff (t clk : Word) (cm : BitVec 2) :
    (tm8Solve t clk cm).fallback = true ↔ (tm8Solve t clk cm).resid = 0xFFFFFFFF := by
  simp only [tm8Solve, encodeTm8]
  cases hfound : toleranceSearch (tm8Boosted t clk cm).1.toNat with
  | none => simp [tm8Residual]
  | some p => simpa [tm8Residual] using ofNat_ne_mark (toleranceSearch_tolerance_lt hfound)

/-- The solve of STP_SET_VEL is that of the bound source's solver (spec/43_stepper.md R178). -/
theorem fallbackMarked_applyVelocity (tf : Word) (s : State) : FallbackMarked (applyVelocity tf s) := by
  unfold applyVelocity
  cases s.stp.src with
  | pwm =>
    simp only [FallbackMarked, applyPwmDuty, applyPwmPort, writePwmSolution]
    exact pwmSolve_fallback_iff ..
  | tm8 =>
    simp only [FallbackMarked, applyTm8Port, writeTm8Solution]
    exact tm8Solve_fallback_iff ..

/-- A frequency solve fails with an error, or leaves RESID's mark in agreement with FALLBACK. -/
theorem exec_solve_cases {i : Instr} (s : State) (hi : SolvesFrequency i) :
    (∃ c, exec i s = .next (raiseError c s)) ∨ ∃ u, exec i s = .next (complete u) ∧ FallbackMarked u := by
  obtain ⟨a, rfl | rfl | rfl | rfl⟩ := hi
  · obtain ⟨sol, port, hsol, h⟩ := execPwmSolve_cases a s
    have hmark : sol.fallback = true ↔ sol.resid = 0xFFFFFFFF := by rw [hsol]; exact requestedPwm_fallback_iff s
    exact .inr ⟨_, h, hmark⟩
  · obtain ⟨sol, duty, port, pduty, hsol, h⟩ := execPwmSolveDuty_cases a s
    have hmark : sol.fallback = true ↔ sol.resid = 0xFFFFFFFF := by rw [hsol]; exact requestedPwm_fallback_iff s
    exact .inr ⟨_, h, hmark⟩
  · obtain ⟨sol, port, hsol, h⟩ := execTm8Solve_cases a s
    have hmark : sol.fallback = true ↔ sol.resid = 0xFFFFFFFF := by rw [hsol]; exact tm8Solve_fallback_iff ..
    exact .inr ⟨_, h, hmark⟩
  · rcases execStpSetVel_cases a s with ⟨_, h⟩ | ⟨_, _, h⟩ | ⟨_, _, tf, h⟩
    · exact .inl ⟨_, h⟩
    · exact .inl ⟨_, h⟩
    · exact .inr ⟨_, h, fallbackMarked_applyVelocity ..⟩

theorem exec_keeps_fallback {i : Instr} {s t : State} (h : exec i s = .next t) (hi : ¬ SolvesFrequency i) :
    t.fallback = s.fallback := by
  rcases exec_cases i s with ⟨c, _, he⟩ | ⟨u, he, _, _, hu⟩ <;> cases h.symm.trans he
  · rfl
  · exact hu.resolve_left hi

/-- An input that is no reset keeps FALLBACK. -/
theorem inputStep_keeps_fallback {i : Input} (s : State) (h1 : i ≠ .rstAssert) (h2 : i ≠ .rstRelease) :
    (inputStep i s).fallback = s.fallback := by
  rcases inputStep_cases i s with ⟨hreset, _⟩ | h | h | ⟨off, n, h⟩ | ⟨off, n, v, h⟩ | ⟨ch, h⟩
  · exact absurd hreset (by simp [h1, h2])
  · rw [h]
  · rw [h]
  · rw [h, hostRead_fallback]
  · rw [h, hostWrite_fallback]
  · rw [h, stepEvent_frame]

/-- Settles O27: by the agent whose step it is, and for a solve by the solver's residual. -/
theorem onlyFrequencySolvesWriteFallback : Obligations.OnlyFrequencySolvesWriteFallback := by
  refine ⟨fun s t hstep hreset hsolve => ?_, fun i s t hexec hi => ?_⟩
  · rcases step_cases s with ⟨hnext, i, hd, h⟩ | ⟨_, h⟩ | h | ⟨i, hin, h⟩ <;> rw [h] at hstep
    · exact exec_keeps_fallback (s := entryTaken s) hstep fun hi => hsolve ⟨hnext, i, hd, hi⟩
    · cases hstep; rfl
    · cases hstep; rfl
    · cases hstep
      exact inputStep_keeps_fallback (entryTaken s) (fun e => hreset (.inl (e ▸ hin)))
        (fun e => hreset (.inr (e ▸ hin)))
  · rcases exec_solve_cases s hi with ⟨c, h⟩ | ⟨u, h, hu⟩ <;> cases hexec.symm.trans h
    · exact .inl ⟨c, rfl, rfl⟩
    · exact .inr hu

end Sys2Proof.Machine
end

section
/-! The invariants of the stepper registers along every run (spec/10_state.md R45). -/

namespace Sys2Proof.Machine

open Sys2Proof.Claims

/-- The fields of which spec/10_state.md R45 speaks: STP_STATE and the four counters. -/
def stepperFields (s : State) : StpState × Half × Half × Half × Half :=
  (s.stp, s.stpRevs, s.stpCur, s.stpFinal, s.stpMspr)

/-- A step that leaves those fields as they are keeps the invariants. -/
theorem StepperInvariant.of_stepperFields_eq {s t : State} (h : StepperInvariant s)
    (ht : stepperFields t = stepperFields s) : StepperInvariant t := by
  simp only [stepperFields, Prod.mk.injEq] at ht
  obtain ⟨hstp, hrevs, hcur, hfinal, hmspr⟩ := ht
  simpa only [StepperInvariant, hstp, hrevs, hcur, hfinal, hmspr] using h

theorem stepperFields_hostRead (off : Int) (n : AccessSize) (s : State) :
    stepperFields (hostRead off n s) = stepperFields s := by
  rcases hostRead_cases off n s with h | h | ⟨o, h⟩ <;> simp [h, stepperFields]

theorem stepperFields_hostWrite (off : Int) (n : AccessSize) (v : Word) (s : State) :
    stepperFields (hostWrite off n v s) = stepperFields s := by
  rcases hostWrite_cases off n v s with h | h | ⟨r, j, h⟩
  · rw [h]
  · simp [h, stepperFields]
  · rw [h, writeReg_frame, stepperFields, stepperFields]

theorem stepperFields_divide (width : Nat) (s : State) : stepperFields (divide width s) = stepperFields s := by
  rcases divide_cases width s with ⟨_, h⟩ | ⟨_, h⟩ <;> simp [h, stepperFields]

/-- The motion is cleared (spec/43_stepper.md R172), DIST_MODE apart, of which R45 does not speak. -/
structure AtRest (s : State) : Prop where
  isMoving : s.stp.isMoving = false
  armed : s.stp.armed = false
  periodState : s.stp.periodState = false
  revs : s.stpRevs = 0
  cur : s.stpCur = 0
  final : s.stpFinal = 0
  mspr : s.stpMspr = 0

/-- Outside the moving modes the invariants are those of a stepper at rest, and of the pins. -/
theorem stepperInvariant_iff_of_not_moving {s : State} (hm : isMovingMode s.stp.mode = false) :
    StepperInvariant s ↔ AtRest s ∧ (s.stp.pinEn = true ↔ s.stp.mode = .enabled ∨ s.stp.mode = .stopped) ∧
      (s.stp.pinOe = true ↔ s.stp.mode ≠ .uninit) := by
  have hcont : s.stp.mode ≠ .movingCont := fun h => by simp [h, isMovingMode] at hm
  have hdist : s.stp.mode ≠ .movingDist := fun h => by simp [h, isMovingMode] at hm
  constructor
  · rintro ⟨hmoving, harmed, hen, hoe, _, hrest⟩
    obtain ⟨hrevs, hcur, hfinal, hmspr, hperiod⟩ := hrest hdist
    exact ⟨⟨by simpa [hcont, hdist] using hmoving, by simpa [hdist] using harmed, hperiod, hrevs, hcur, hfinal, hmspr⟩,
      by simpa [hcont, hdist] using hen, hoe⟩
  · rintro ⟨⟨hmoving, harmed, hperiod, hrevs, hcur, hfinal, hmspr⟩, hen, hoe⟩
    exact ⟨by simp [hmoving, hcont, hdist], by simp [harmed, hdist], by simpa [hcont, hdist] using hen, hoe,
      fun h => absurd h hdist, fun _ => ⟨hrevs, hcur, hfinal, hmspr, hperiod⟩⟩

/-- In a started mode the driver is enabled and the pins are driven. -/
theorem StepperInvariant.pins_of_started {s : State} (h : StepperInvariant s)
    (hm : canStart s.stp.mode = true ∨ isMovingMode s.stp.mode = true) :
    s.stp.pinEn = true ∧ s.stp.pinOe = true := by
  obtain ⟨_, _, hen, hoe, _⟩ := h
  simp only [canStart_eq_true, isMovingMode_eq_true] at hm
  rcases hm with (hm | hm) | (hm | hm) <;> exact ⟨hen.2 (by simp [hm]), hoe.2 (by simp [hm])⟩

theorem endOfMove_stepperInvariant {s : State} (hen : s.stp.pinEn = true) (hoe : s.stp.pinOe = true) :
    StepperInvariant (endOfMove s) := by
  rw [endOfMove_eq]
  exact (stepperInvariant_iff_of_not_moving rfl).2
    ⟨by constructor <;> rfl, by simp [hen], by simp [hoe]⟩

/-- Counting keeps STP_CUR below STP_MSPR: it wraps there (spec/43_stepper.md R196). -/
theorem countStep_stepperInvariant {s : State} (h : StepperInvariant s) (hm : s.stp.mode = .movingDist) :
    StepperInvariant (countStep s) := by
  obtain ⟨hen, hoe⟩ := h.pins_of_started (.inr (by simp [hm]))
  obtain ⟨hmoving, harmed, hpinEn, hpinOe, hcount, _⟩ := h
  obtain ⟨hmspr, hcur⟩ := hcount hm
  rcases countStep_cases s with ⟨_, _, _, hc⟩ | ⟨_, _, hc⟩ | ⟨_, _, _, hc⟩ | ⟨hne, _, hc⟩ <;> rw [hc]
  · exact endOfMove_stepperInvariant hen hoe
  · exact ⟨hmoving, harmed, hpinEn, hpinOe, fun _ => ⟨hmspr, by bv_omega⟩, fun hn => absurd hm hn⟩
  · exact endOfMove_stepperInvariant hen hoe
  · exact ⟨hmoving, harmed, hpinEn, hpinOe, fun _ => ⟨hmspr, by bv_omega⟩, fun hn => absurd hm hn⟩

theorem setPeriodState_stepperInvariant {s : State} (h : StepperInvariant s) (hm : s.stp.mode = .movingDist) (b : Bool) :
    StepperInvariant { s with stp := { s.stp with periodState := b } } := by
  obtain ⟨hmoving, harmed, hpinEn, hpinOe, hcount, _⟩ := h
  exact ⟨hmoving, harmed, hpinEn, hpinOe, hcount, fun hn => absurd hm hn⟩

theorem stepEvent_stepperInvariant {s : State} (ch : Channel) (h : StepperInvariant s) :
    StepperInvariant (stepEvent ch s) := by
  rcases stepEvent_cases ch s with ⟨_, he⟩ | ⟨hm, _, _, ⟨_, he⟩ | ⟨_, _, he⟩ | ⟨_, _, he⟩⟩ <;> rw [he]
  · exact h
  · exact countStep_stepperInvariant h hm
  · exact setPeriodState_stepperInvariant h hm true
  · exact countStep_stepperInvariant (setPeriodState_stepperInvariant h hm false) hm

/-- A move starts at step 0 of a revolution of STP_SPR steps, or ends at once (spec/43_stepper.md R181, R182). -/
theorem startMove_stepperInvariant {s : State} (revs fin : Nat) (hspr : stepsPerRev s ≠ 0)
    (hen : s.stp.pinEn = true) (hoe : s.stp.pinOe = true) :
    StepperInvariant (startMove revs fin (clearMotion s)) := by
  rcases startMove_cases revs fin (clearMotion s) with ⟨_, _, hc⟩ | ⟨_, hc⟩ <;> rw [hc]
  · exact (stepperInvariant_iff_of_not_moving rfl).2
      ⟨by constructor <;> rfl, by simp [hen], by simp [hoe]⟩
  · have hpos : 0 < s.snap.stpSpr.toNat := Nat.pos_of_ne_zero hspr
    exact ⟨by simp, by simp, by simp [hen], by simp [hoe],
      fun _ => ⟨fun h0 => hspr (congrArg BitVec.toNat h0), hpos⟩, fun hn => absurd rfl hn⟩

theorem execStpEnable_stepperInvariant {a : Bool} {s t : State} (h : StepperInvariant s)
    (e : execStpEnable a s = .next t) : StepperInvariant t := by
  rcases execStpEnable_cases a s with ⟨_, hc⟩ | ⟨hm, hc⟩ | ⟨_, _, hc⟩ <;> cases e.symm.trans hc
  · exact h
  · obtain ⟨⟨hmoving, harmed, hperiod, hrevs, hcur, hfinal, hmspr⟩, _, hoe⟩ :=
      (stepperInvariant_iff_of_not_moving (by rw [hm]; rfl)).1 h
    exact (stepperInvariant_iff_of_not_moving rfl).2
      ⟨⟨hmoving, harmed, hperiod, hrevs, hcur, hfinal, hmspr⟩, by simp, by simp [hoe, hm]⟩
  · exact h

theorem execStpSetDir_stepperInvariant {a : Bool} {s t : State} (h : StepperInvariant s)
    (e : execStpSetDir a s = .next t) : StepperInvariant t := by
  rcases execStpSetDir_cases a s with ⟨_, hc⟩ | ⟨_, hc⟩ <;> cases e.symm.trans hc <;> exact h

theorem execStpSetVel_stepperInvariant {a : Bool} {s t : State} (h : StepperInvariant s)
    (e : execStpSetVel a s = .next t) : StepperInvariant t := by
  rcases execStpSetVel_cases a s with ⟨_, hc⟩ | ⟨_, _, hc⟩ | ⟨_, _, tf, hc⟩ <;> cases e.symm.trans hc
  · exact h
  · exact h
  · refine h.of_stepperFields_eq ?_
    rw [applyVelocity_frame]; rfl

theorem execStpRun_stepperInvariant {a : Bool} {s t : State} (h : StepperInvariant s)
    (e : execStpRun a s = .next t) : StepperInvariant t := by
  rcases execStpRun_cases a s with ⟨_, hc⟩ | ⟨hm, hc⟩ <;> cases e.symm.trans hc
  · exact h
  · obtain ⟨hen, hoe⟩ := h.pins_of_started (.inl hm)
    simp [StepperInvariant, hen, hoe]

theorem execStpMove_stepperInvariant {a : Bool} {s t : State} (h : StepperInvariant s)
    (e : execStpMove a s = .next t) : StepperInvariant t := by
  rcases execStpMove_cases a s with ⟨_, hc⟩ | ⟨_, _, hc⟩ | ⟨_, _, _, hc⟩ | ⟨hm, _, hspr, revs, fin, hc⟩ <;>
    cases e.symm.trans hc
  · exact h
  · exact h
  · exact h
  · obtain ⟨hen, hoe⟩ := h.pins_of_started (.inl hm)
    exact startMove_stepperInvariant revs fin hspr hen hoe

theorem execStpStop_stepperInvariant {a : Bool} {s t : State} (h : StepperInvariant s)
    (e : execStpStop a s = .next t) : StepperInvariant t := by
  rcases execStpStop_cases a s with ⟨_, hc⟩ | ⟨hm, hc⟩ | ⟨_, hm, hc⟩ <;> cases e.symm.trans hc
  · exact h
  · obtain ⟨hen, hoe⟩ := h.pins_of_started (.inr hm)
    exact (stepperInvariant_iff_of_not_moving rfl).2
      ⟨by constructor <;> rfl, by simp [motionStopped, hen], by simp [motionStopped, hoe]⟩
  · obtain ⟨_, hen, hoe⟩ := (stepperInvariant_iff_of_not_moving hm).1 h
    exact (stepperInvariant_iff_of_not_moving (by simpa [motionStopped] using hm)).2
      ⟨by constructor <;> rfl, by simpa [motionStopped] using hen, by simpa [motionStopped] using hoe⟩

theorem execStpDisable_stepperInvariant {a : Bool} {s t : State} (h : StepperInvariant s)
    (e : execStpDisable a s = .next t) : StepperInvariant t := by
  rcases execStpDisable_cases a s with ⟨_, hc⟩ | ⟨hm, hc⟩ <;> cases e.symm.trans hc
  · exact h
  · obtain ⟨_, _, _, hoe, _⟩ := h
    exact (stepperInvariant_iff_of_not_moving rfl).2
      ⟨by constructor <;> rfl, by simp, by simp [motionStopped, hoe, hm]⟩

theorem execStpRelease_stepperInvariant {a : Bool} {s t : State} (h : StepperInvariant s)
    (e : execStpRelease a s = .next t) : StepperInvariant t := by
  rcases execStpRelease_cases a s with ⟨_, hc⟩ | ⟨_, hc⟩ <;> cases e.symm.trans hc
  · exact h
  · exact (stepperInvariant_iff_of_not_moving rfl).2 ⟨by constructor <;> rfl, by simp, by simp⟩

/-- Every command keeps the invariants: those outside the stepper leave its fields as they are. -/
theorem exec_stepperInvariant {i : Instr} {s t : State} (h : StepperInvariant s) (e : exec i s = .next t) :
    StepperInvariant t := by
  cases i with
  | nop a | mul8 a | mul16 a => cases e; exact h
  | div8 a | div16 a | div24 a | div32 a => cases e; exact h.of_stepperFields_eq (stepperFields_divide _ s)
  | pwmSolve a =>
    obtain ⟨sol, port, _, hc⟩ := execPwmSolve_cases a s
    cases e.symm.trans hc; exact h
  | pwmSolveDuty a =>
    obtain ⟨sol, duty, port, pduty, _, hc⟩ := execPwmSolveDuty_cases a s
    cases e.symm.trans hc; exact h
  | tm8Solve a =>
    obtain ⟨sol, port, _, hc⟩ := execTm8Solve_cases a s
    cases e.symm.trans hc; exact h
  | tm8Duty a =>
    obtain ⟨reg, port, hc⟩ := execTm8Duty_cases a s
    cases e.symm.trans hc; exact h
  | stpInit a =>
    cases e.symm.trans (execStpInit_eq a s)
    exact (stepperInvariant_iff_of_not_moving rfl).2 ⟨by constructor <;> rfl, by simp, by simp⟩
  | stpEnable a => exact execStpEnable_stepperInvariant (a := a) h e
  | stpSetDir a => exact execStpSetDir_stepperInvariant (a := a) h e
  | stpSetVel a => exact execStpSetVel_stepperInvariant (a := a) h e
  | stpRun a => exact execStpRun_stepperInvariant (a := a) h e
  | stpMove a => exact execStpMove_stepperInvariant (a := a) h e
  | stpStop a => exact execStpStop_stepperInvariant (a := a) h e
  | stpDisable a => exact execStpDisable_stepperInvariant (a := a) h e
  | stpRelease a => exact execStpRelease_stepperInvariant (a := a) h e
  | stpEvent a => cases e; exact stepEvent_stepperInvariant _ h

/-- The reset state is at rest in UNINIT (spec/70_reset_and_hazards.md R241). -/
theorem reset_stepperInvariant : StepperInvariant State.reset := by decide

theorem inputStep_stepperInvariant {s : State} (i : Input) (h : StepperInvariant s) :
    StepperInvariant (inputStep i s) := by
  rcases inputStep_cases i s with ⟨_, level, hc⟩ | hc | hc | ⟨off, n, hc⟩ | ⟨off, n, v, hc⟩ | ⟨ch, hc⟩ <;> rw [hc]
  · exact reset_stepperInvariant.of_stepperFields_eq rfl
  · exact h
  · exact h
  · exact h.of_stepperFields_eq (stepperFields_hostRead ..)
  · exact h.of_stepperFields_eq (stepperFields_hostWrite ..)
  · exact stepEvent_stepperInvariant ch h

theorem step_stepperInvariant {s t : State} (h : StepperInvariant s) (e : step s = .next t) : StepperInvariant t := by
  rcases step_cases s with ⟨_, i, _, hc⟩ | ⟨_, hc⟩ | hc | ⟨i, _, hc⟩ <;> rw [hc] at e
  · exact exec_stepperInvariant (s := entryTaken s) h e
  · cases e; exact h
  · cases e; exact h
  · cases e; exact inputStep_stepperInvariant i (s := entryTaken s) h

/-! ### Runs -/

theorem runSteps_succ {s t : State} (n : Nat) (h : step s = .next t) : runSteps (n + 1) s = runSteps n t := by
  have hcore : core.step s = .next t := h
  simp only [runSteps, Host.Core.run, hcore]
  rfl

/-- What every step keeps holds after any number of steps, none of which stops the run. -/
theorem runSteps_keeps {P : State → Prop} (hP : ∀ s t, P s → step s = .next t → P t) (n : Nat) :
    ∀ s, P s → ∃ t, runSteps n s = .next t ∧ P t := by
  induction n with
  | zero => exact fun s hs => ⟨s, rfl, hs⟩
  | succ n ih =>
    intro s hs
    obtain ⟨u, hu⟩ := step_next s
    rw [runSteps_succ n hu]
    exact ih u (hP s u hs hu)

/-- Settles O48: the stepper invariants hold at reset and every step keeps them. -/
theorem reachableStatesSatisfyTheStepperInvariants : Obligations.ReachableStatesSatisfyTheStepperInvariants :=
  fun schedule n => runSteps_keeps (fun _ _ => step_stepperInvariant) n { State.reset with inputs := schedule }
    (reset_stepperInvariant.of_stepperFields_eq rfl)

end Sys2Proof.Machine
end

section
/-! What a host write to CMD stores, and when it issues (spec/30_encoding.md R90, spec/20_memory.md R73). -/

namespace Sys2Proof.Machine

open Sys2Proof.Claims

theorem byteAt_getLsbD (w : Word) (k i : Nat) : (byteAt w k).getLsbD i = (decide (i < 8) && w.getLsbD (8 * k + i)) :=
  BitVec.getLsbD_extractLsb' ..

/-- The merge of a write is the byte replacement of R72: a bit lies in the written lanes as its byte does. -/
theorem bytesReplaced_mergeBytes (old v : Word) (j : Nat) (n : AccessSize) :
    BytesReplaced old j n v (mergeBytes old j n v) := by
  intro k hk
  apply BitVec.eq_of_getLsbD_eq
  intro i hi
  rw [byteAt_getLsbD, mergeBytes_getLsbD _ _ _ _ _ (by omega)]
  by_cases hlane : j ≤ k ∧ k < j + n.bytes
  · rw [if_pos hlane, if_pos (by omega), byteAt_getLsbD, show 8 * k + i - 8 * j = 8 * (k - j) + i by omega]
  · rw [if_neg hlane, if_neg (by omega), byteAt_getLsbD]

/-- A write that covers byte 0 of CMD issues the stored word (spec/30_encoding.md R90). -/
theorem hostWrite_cmd_zero (n : AccessSize) (v : Word) (s : State) :
    hostWrite 0x08 n v s = issue { s with cmd := mergeBytes s.cmd 0 n v } :=
  hostWrite_register .cmd 0 n v s (by omega) (Nat.zero_mod _)

/-- A write that covers only bytes 1 to 3 of CMD stores them (spec/20_memory.md R73). -/
theorem hostWrite_cmd_of_pos {j : Nat} {n : AccessSize} (v : Word) (s : State) (h1 : 1 ≤ j) (h4 : j < 4)
    (haligned : j % n.bytes = 0) :
    hostWrite ((0x08 + j : Nat) : Int) n v s = { s with cmd := mergeBytes s.cmd j n v } := by
  have hwrite := hostWrite_register .cmd j n v s h4 haligned
  rwa [writeReg, if_neg (by omega)] at hwrite

/-- Settles O55: the stored word is the merge of the written bytes, and `issue` takes it or rejects it. -/
theorem writingCmdIssuesOrIsRejected : Obligations.WritingCmdIssuesOrIsRejected := by
  refine ⟨fun s n v => ⟨_, bytesReplaced_mergeBytes s.cmd v 0 n, fun hbusy => ?_, fun hidle => ?_⟩,
    fun s j n v h1 h4 haligned => ⟨_, bytesReplaced_mergeBytes s.cmd v j n, hostWrite_cmd_of_pos v s h1 h4 haligned⟩⟩
  · rw [hostWrite_cmd_zero]
    exact issue_busy hbusy
  · rw [hostWrite_cmd_zero]
    exact issue_idle hidle

end Sys2Proof.Machine
end

section
/-! Who writes the ports, and what a command copies there (spec/30_encoding.md R94, spec/10_state.md R39, R40). -/

namespace Sys2Proof.Machine

open Sys2Proof.Claims

/-- PWM_PORT and PWM_PDUTY, the ports of the PWM channel (spec/10_state.md R39). -/
def pwmPorts (s : State) : SolveReg × BitVec 11 := (s.pwmPort, s.pwmPduty)

theorem pwmPorts_eq_iff {s t : State} : pwmPorts t = pwmPorts s ↔ t.pwmPort = s.pwmPort ∧ t.pwmPduty = s.pwmPduty :=
  Prod.mk_inj

/-- Every port register (spec/10_state.md R39, R40). -/
def ports (s : State) : (SolveReg × BitVec 11) × Tm8Port := (pwmPorts s, s.tm8Port)

theorem ports_eq {s t : State} (hport : t.pwmPort = s.pwmPort) (hduty : t.pwmPduty = s.pwmPduty)
    (htm8 : t.tm8Port = s.tm8Port) : ports t = ports s :=
  Prod.mk_inj.2 ⟨pwmPorts_eq_iff.2 ⟨hport, hduty⟩, htm8⟩

/-- What a timer solve puts into TM8_PORT: the fields of SOLVE and Period mode; DEPTH stays
(spec/42_tm8.md R156, spec/43_stepper.md R178). -/
def tm8PortOfSolve (reg : SolveReg) (depth : Bool) : Tm8Port :=
  { psc := reg.psc, scalar := reg.scalar, bound := reg.bound.truncate 8, mode := .period, depth := depth }

/-! ### What keeps every port -/

theorem ports_hostRead (off : Int) (n : AccessSize) (s : State) : ports (hostRead off n s) = ports s := by
  rcases hostRead_cases off n s with h | h | ⟨o, h⟩ <;> rw [h] <;> rfl

theorem ports_hostWrite (off : Int) (n : AccessSize) (v : Word) (s : State) :
    ports (hostWrite off n v s) = ports s := by
  rcases hostWrite_cases off n v s with h | h | ⟨r, j, h⟩
  · rw [h]
  · rw [h]; rfl
  · rw [h, writeReg_frame]; rfl

theorem ports_stepEvent (ch : Channel) (s : State) : ports (stepEvent ch s) = ports s := by
  rw [stepEvent_frame]; rfl

theorem ports_setRun (ch : Channel) (v : Bool) (s : State) : ports (setRun ch v s) = ports s := by
  rw [setRun_eq]; rfl

theorem ports_divide (width : Nat) (s : State) : ports (divide width s) = ports s := by
  rcases divide_cases width s with ⟨_, h⟩ | ⟨_, h⟩ <;> rw [h] <;> rfl

theorem ports_startMove (revs fin : Nat) (s : State) : ports (startMove revs fin s) = ports s := by
  rcases startMove_cases revs fin s with ⟨_, _, h⟩ | ⟨_, h⟩ <;> rw [h] <;> rfl

theorem ports_motionStopped (s : State) : ports (motionStopped s) = ports s :=
  ports_setRun s.stp.src false s

/-- An input that is no reset keeps every port. -/
theorem inputStep_keeps_ports {i : Input} (s : State) (h1 : i ≠ .rstAssert) (h2 : i ≠ .rstRelease) :
    ports (inputStep i s) = ports s := by
  rcases inputStep_cases i s with ⟨hreset, _⟩ | h | h | ⟨off, n, h⟩ | ⟨off, n, v, h⟩ | ⟨ch, h⟩
  · exact absurd hreset (by simp [h1, h2])
  · rw [h]
  · rw [h]; rfl
  · rw [h, ports_hostRead]
  · rw [h, ports_hostWrite]
  · rw [h, ports_stepEvent]

/-! ### What the solver commands put into their ports -/

theorem exec_pwmSolve_ports {a : Bool} {s t : State} (h : exec (.pwmSolve a) s = .next t) :
    t.pwmPort = (if a then t.solve else s.pwmPort) ∧ t.pwmPduty = s.pwmPduty ∧ t.tm8Port = s.tm8Port := by
  rw [exec, execPwmSolve] at h
  generalize requestedPwm s = sol at h
  cases a <;> cases h <;> exact ⟨rfl, rfl, rfl⟩

theorem exec_pwmSolveDuty_ports {a : Bool} {s t : State} (h : exec (.pwmSolveDuty a) s = .next t) :
    t.pwmPort = (if a then t.solve else s.pwmPort) ∧ t.pwmPduty = (if a then t.duty else s.pwmPduty) ∧
      t.tm8Port = s.tm8Port := by
  rw [exec, execPwmSolveDuty] at h
  generalize requestedPwm s = sol at h
  cases a <;> cases h <;> exact ⟨rfl, rfl, rfl⟩

/-- The timer port takes the written SOLVE: the bound has 8 bits and SOLVE.BOUND holds it without loss. -/
theorem applyTm8Port_writeTm8Solution (sol : Tm8Solution) (s : State) :
    (applyTm8Port sol (writeTm8Solution sol s)).tm8Port =
      tm8PortOfSolve (writeTm8Solution sol s).solve s.tm8Port.depth := by
  simp [applyTm8Port, writeTm8Solution, tm8PortOfSolve]

theorem exec_tm8Solve_ports {a : Bool} {s t : State} (h : exec (.tm8Solve a) s = .next t) :
    t.tm8Port = (if a then tm8PortOfSolve t.solve s.tm8Port.depth else s.tm8Port) ∧
      t.pwmPort = s.pwmPort ∧ t.pwmPduty = s.pwmPduty := by
  rw [exec, execTm8Solve] at h
  cases a <;> cases h
  · exact ⟨rfl, rfl, rfl⟩
  · exact ⟨applyTm8Port_writeTm8Solution _ s, rfl, rfl⟩

theorem exec_tm8Duty_ports {a : Bool} {s t : State} (h : exec (.tm8Duty a) s = .next t) :
    t.tm8Port = (if a then { psc := s.tm8Port.psc, scalar := s.tm8Port.scalar, bound := t.solve.bound.truncate 8,
                             mode := .pwm, depth := s.snap.ctrl.tm8Depth } else s.tm8Port) ∧
      t.pwmPort = s.pwmPort ∧ t.pwmPduty = s.pwmPduty := by
  rw [exec, execTm8Duty] at h
  cases a <;> cases h
  · exact ⟨rfl, rfl, rfl⟩
  · refine ⟨?_, rfl, rfl⟩
    simp [BitVec.setWidth_ofNat_of_le]

theorem applyVelocity_ports_of_pwm (tf : Word) {s : State} (hs : s.stp.src = .pwm) :
    (applyVelocity tf s).pwmPort = (applyVelocity tf s).solve ∧
      (applyVelocity tf s).pwmPduty = (applyVelocity tf s).duty ∧ (applyVelocity tf s).tm8Port = s.tm8Port := by
  rw [applyVelocity, hs]
  generalize pwmSolve tf s.snap.clkPwm s.snap.ctrl.pwmCorr s.snap.ctrl.pwmOdd = sol
  exact ⟨rfl, rfl, rfl⟩

theorem applyVelocity_ports_of_tm8 (tf : Word) {s : State} (hs : s.stp.src = .tm8) :
    (applyVelocity tf s).pwmPort = s.pwmPort ∧ (applyVelocity tf s).pwmPduty = s.pwmPduty ∧
      (applyVelocity tf s).tm8Port = tm8PortOfSolve (applyVelocity tf s).solve s.tm8Port.depth := by
  rw [applyVelocity, hs]
  exact ⟨rfl, rfl, applyTm8Port_writeTm8Solution _ s⟩

/-- STP_SET_VEL fails and changes nothing else, or writes the ports of the bound source (spec/43_stepper.md R178). -/
theorem exec_stpSetVel_ports {a : Bool} {s t : State} (h : exec (.stpSetVel a) s = .next t) :
    (∃ c, t = failed c s) ∨
    (s.stp.src = .pwm ∧ t.pwmPort = t.solve ∧ t.pwmPduty = t.duty ∧ t.tm8Port = s.tm8Port) ∨
    (s.stp.src = .tm8 ∧ t.pwmPort = s.pwmPort ∧ t.pwmPduty = s.pwmPduty ∧
      t.tm8Port = tm8PortOfSolve t.solve s.tm8Port.depth) := by
  rcases execStpSetVel_cases a s with ⟨_, hc⟩ | ⟨_, _, hc⟩ | ⟨_, _, tf, hc⟩ <;> cases h.symm.trans hc
  · exact .inl ⟨_, rfl⟩
  · exact .inl ⟨_, rfl⟩
  · cases hs : s.stp.src with
    | pwm => exact .inr (.inl ⟨rfl, applyVelocity_ports_of_pwm tf (s := { s with stpTfreq := tf }) hs⟩)
    | tm8 => exact .inr (.inr ⟨rfl, applyVelocity_ports_of_tm8 tf (s := { s with stpTfreq := tf }) hs⟩)

/-- Only the four solver opcodes read APPLY (spec/30_encoding.md R94). -/
theorem exec_ignores_apply {command : Bool → Instr} (hc : command ∈ notSolvers) (a b : Bool) (s : State) :
    exec (command a) s = exec (command b) s := by
  fin_cases hc <;> rfl

/-! ### Which steps change a port -/

/-- A command keeps every port, or is one that writes the ports of a single channel. -/
theorem exec_ports_cases {i : Instr} {s t : State} (h : exec i s = .next t) :
    ports t = ports s ∨ (WritesPwmPort i s.stp.src ∧ t.tm8Port = s.tm8Port) ∨
      (WritesTm8Port i s.stp.src ∧ pwmPorts t = pwmPorts s) := by
  cases i with
  | nop a | mul8 a | mul16 a => cases h; exact .inl rfl
  | div8 a | div16 a | div24 a | div32 a => cases h; exact .inl (ports_divide _ s)
  | pwmSolve a =>
    obtain ⟨hport, hduty, htm8⟩ := exec_pwmSolve_ports h
    cases a
    · exact .inl (ports_eq hport hduty htm8)
    · exact .inr (.inl ⟨.inl rfl, htm8⟩)
  | pwmSolveDuty a =>
    obtain ⟨hport, hduty, htm8⟩ := exec_pwmSolveDuty_ports h
    cases a
    · exact .inl (ports_eq hport hduty htm8)
    · exact .inr (.inl ⟨.inr (.inl rfl), htm8⟩)
  | tm8Solve a =>
    obtain ⟨htm8, hport, hduty⟩ := exec_tm8Solve_ports h
    cases a
    · exact .inl (ports_eq hport hduty htm8)
    · exact .inr (.inr ⟨.inl rfl, pwmPorts_eq_iff.2 ⟨hport, hduty⟩⟩)
  | tm8Duty a =>
    obtain ⟨htm8, hport, hduty⟩ := exec_tm8Duty_ports h
    cases a
    · exact .inl (ports_eq hport hduty htm8)
    · exact .inr (.inr ⟨.inr (.inl rfl), pwmPorts_eq_iff.2 ⟨hport, hduty⟩⟩)
  | stpInit a => cases h.symm.trans (execStpInit_eq a s); exact .inl rfl
  | stpEnable a =>
    rcases execStpEnable_cases a s with ⟨_, hc⟩ | ⟨_, hc⟩ | ⟨_, _, hc⟩ <;> cases h.symm.trans hc <;> exact .inl rfl
  | stpSetDir a =>
    rcases execStpSetDir_cases a s with ⟨_, hc⟩ | ⟨_, hc⟩ <;> cases h.symm.trans hc <;> exact .inl rfl
  | stpSetVel a =>
    rcases exec_stpSetVel_ports h with ⟨c, rfl⟩ | ⟨hs, _, _, htm8⟩ | ⟨hs, hport, hduty, _⟩
    · exact .inl rfl
    · exact .inr (.inl ⟨.inr (.inr ⟨⟨a, rfl⟩, hs⟩), htm8⟩)
    · exact .inr (.inr ⟨.inr (.inr ⟨⟨a, rfl⟩, hs⟩), pwmPorts_eq_iff.2 ⟨hport, hduty⟩⟩)
  | stpRun a =>
    rcases execStpRun_cases a s with ⟨_, hc⟩ | ⟨_, hc⟩ <;> cases h.symm.trans hc
    · exact .inl rfl
    · exact .inl (ports_setRun s.stp.src true _)
  | stpMove a =>
    rcases execStpMove_cases a s with ⟨_, hc⟩ | ⟨_, _, hc⟩ | ⟨_, _, _, hc⟩ | ⟨_, _, _, revs, fin, hc⟩ <;>
      cases h.symm.trans hc
    · exact .inl rfl
    · exact .inl rfl
    · exact .inl rfl
    · exact .inl (ports_startMove revs fin (clearMotion s))
  | stpStop a =>
    rcases execStpStop_cases a s with ⟨_, hc⟩ | ⟨_, hc⟩ | ⟨_, _, hc⟩ <;> cases h.symm.trans hc
    · exact .inl rfl
    · exact .inl (ports_motionStopped s)
    · exact .inl (ports_motionStopped s)
  | stpDisable a =>
    rcases execStpDisable_cases a s with ⟨_, hc⟩ | ⟨_, hc⟩ <;> cases h.symm.trans hc
    · exact .inl rfl
    · exact .inl (ports_motionStopped s)
  | stpRelease a =>
    rcases execStpRelease_cases a s with ⟨_, hc⟩ | ⟨_, hc⟩ <;> cases h.symm.trans hc
    · exact .inl rfl
    · exact .inl (ports_motionStopped s)
  | stpEvent a => cases h; exact .inl (ports_stepEvent s.stp.src s)

/-- A step that is no reset keeps every port, or completes a command that writes the ports of a single channel. -/
theorem step_ports_cases {s t : State} (h : step s = .next t) (hreset : ¬ ResetNext s) :
    ports t = ports s ∨
    (EngineNext s ∧ ∃ i, decode s.engCmd = .ok i ∧ WritesPwmPort i s.stp.src) ∧ t.tm8Port = s.tm8Port ∨
    (EngineNext s ∧ ∃ i, decode s.engCmd = .ok i ∧ WritesTm8Port i s.stp.src) ∧ pwmPorts t = pwmPorts s := by
  rcases step_cases s with ⟨hnext, i, hd, hc⟩ | ⟨_, hc⟩ | hc | ⟨i, hin, hc⟩ <;> rw [hc] at h
  · rcases exec_ports_cases h with hkeep | ⟨hw, hkeep⟩ | ⟨hw, hkeep⟩
    · exact .inl hkeep
    · exact .inr (.inl ⟨⟨hnext, i, hd, hw⟩, hkeep⟩)
    · exact .inr (.inr ⟨⟨hnext, i, hd, hw⟩, hkeep⟩)
  · cases h; exact .inl rfl
  · cases h; exact .inl rfl
  · cases h
    exact .inl (inputStep_keeps_ports (entryTaken s) (fun e => hreset (.inl (e ▸ hin)))
      (fun e => hreset (.inr (e ▸ hin))))

/-- Settles O28: by the command for what is copied, by the agent whose step it is for what is kept. -/
theorem applyCopiesTheResultsToThePort : Obligations.ApplyCopiesTheResultsToThePort := by
  refine ⟨fun apply s t => ⟨exec_pwmSolve_ports, exec_pwmSolveDuty_ports, exec_tm8Solve_ports, exec_tm8Duty_ports,
    exec_stpSetVel_ports, fun command hc => exec_ignores_apply hc ..⟩, fun s t hstep hreset => ?_⟩
  rcases step_ports_cases hstep hreset with hkeep | ⟨hw, htm8⟩ | ⟨hw, hpwm⟩
  · obtain ⟨hpwm, htm8⟩ := Prod.mk.inj hkeep
    exact ⟨fun _ => pwmPorts_eq_iff.1 hpwm, fun _ => htm8⟩
  · exact ⟨fun hn => absurd hw hn, fun _ => htm8⟩
  · exact ⟨fun _ => pwmPorts_eq_iff.1 hpwm, fun hn => absurd hw hn⟩

end Sys2Proof.Machine
end

section
/-! The arithmetic unit and the opcode table (spec/30_encoding.md R91 to R95, spec/40_arith.md): the words of one
opcode, the loops of R112 and R118 in closed form, and the commands NOP, DIV8 to DIV32, MUL8 and MUL16. -/

namespace Sys2Proof.Machine

open Sys2Proof.Claims

/-! ### The fields of a command word and the words of one opcode -/

theorem opcodeOf_eq (w : Word) : opcodeOf w = BitVec.ofNat 8 (w.toNat % 256) := by
  apply BitVec.eq_of_toNat_eq
  simp [opcodeOf]

theorem applyOf_eq (w : Word) : applyOf w = (w.toNat / 256 % 2 == 1) := by
  rw [applyOf, getLsbD_eq_decide, beq_eq_decide]
  rfl

theorem reservedOf_eq_zero_iff (w : Word) : reservedOf w = 0 ↔ w.toNat / 512 = 0 := by
  have hw := w.isLt
  have hval : (reservedOf w).toNat = w.toNat / 512 := by
    simp only [reservedOf, BitVec.extractLsb'_toNat, Nat.shiftRight_eq_div_pow]
    omega
  rw [← hval]
  exact BitVec.toNat_inj.symm

theorem decode_of_reserved {w : Word} (h : w.toNat / 512 ≠ 0) : decode w = .error .reservedBits := by
  rw [decode, if_pos (mt (reservedOf_eq_zero_iff w).1 h)]

theorem decode_of_commandOf {w : Word} {i : Instr} (h : w.toNat / 512 = 0)
    (hi : commandOf (opcodeOf w) (applyOf w) = some i) : decode w = .ok i := by
  rw [decode, if_neg (not_not.2 ((reservedOf_eq_zero_iff w).2 h)), hi]

/-- The engine's step, at its entry or with no entry left, completes the command in `eng_cmd` (spec/60_exceptions.md
R212). -/
theorem step_of_engineNext {s : State} (h : EngineNext s) : step s = completeCommand (entryTaken s) := by
  obtain ⟨hbusy, hrst, hturn⟩ := h
  have hengine : engineStep (entryTaken s) = completeCommand (entryTaken s) := engineStep_busy hbusy hrst
  cases hin : s.inputs with
  | nil =>
    have hkeep : entryTaken s = s := by cases s; simp_all [entryTaken]
    rw [step_nil hin, ← hengine, hkeep]
  | cons i rest =>
    obtain rfl : i = .engine := by simpa [hin] using hturn
    rw [step_engine_cons hin, ← hengine, entryTaken, hin, List.tail_cons]

/-- A row of the opcode table (R92) says everything of the words with its opcode. -/
theorem encodedAs_of_commandOf {opc : Nat} {command : Bool → Instr}
    (hrow : ∀ apply, commandOf (BitVec.ofNat 8 opc) apply = some (command apply)) : EncodedAs opc command := by
  constructor
  · intro w hopc hrsv
    rw [← applyOf_eq]
    exact decode_of_commandOf hrsv (by rw [opcodeOf_eq, hopc, hrow])
  · intro s hnext _ hrsv
    rw [step_of_engineNext hnext]
    exact completeCommand_error (decode_of_reserved hrsv)

/-! ### The restoring division, R112 -/

/-- The number made of the partial remainder and the `i + 1` bits still to come: taking the next bit in leaves it. -/
theorem partialRemainder_succ (n r i : Nat) :
    r * 2 ^ (i + 1) + n % 2 ^ (i + 1) = (2 * r + n / 2 ^ i % 2) * 2 ^ i + n % 2 ^ i := by
  rw [Nat.mod_pow_succ]
  ring

theorem shiftLeft_one_or_bit (r n i : Nat) : r <<< 1 ||| (n >>> i) % 2 = 2 * r + n / 2 ^ i % 2 := by
  rw [Nat.shiftRight_eq_div_pow, ← Nat.shiftLeft_add_eq_or_of_lt (Nat.mod_lt _ (by decide)), Nat.shiftLeft_eq]
  omega

/-- The loop from any iteration: with `r` the remainder so far and the quotient bits below `i` still 0, it divides the
number made of `r` and the last `i` bits of `n`. -/
theorem divLoop_eq {n d : Nat} (i : Nat) {q r : Nat} (hr : r < d) (hq : 2 ^ i ∣ q) :
    divLoop n d i q r = (q + (r * 2 ^ i + n % 2 ^ i) / d, (r * 2 ^ i + n % 2 ^ i) % d) := by
  induction i generalizing q r with
  | zero => simp [divLoop, Nat.mod_one, Nat.div_eq_of_lt hr, Nat.mod_eq_of_lt hr]
  | succ i ih =>
    have hbit : n / 2 ^ i % 2 < 2 := Nat.mod_lt _ (by decide)
    have hq' : 2 ^ i ∣ q := (pow_dvd_pow 2 i.le_succ).trans hq
    rw [divLoop_succ, shiftLeft_one_or_bit, partialRemainder_succ]
    split_ifs with hd
    · have hset : q ||| 1 <<< i = q + 2 ^ i := by
        obtain ⟨k, rfl⟩ := hq
        rw [Nat.one_shiftLeft, Nat.two_pow_add_eq_or_of_lt (Nat.pow_lt_pow_succ (by decide))]
      obtain ⟨t, ht⟩ := Nat.exists_eq_add_of_le hd
      have hsplit : (2 * r + n / 2 ^ i % 2) * 2 ^ i + n % 2 ^ i = t * 2 ^ i + n % 2 ^ i + d * 2 ^ i := by
        rw [ht]; ring
      rw [hset, ih (by omega) (hq'.add (dvd_refl _)), hsplit, ht, Nat.add_sub_cancel_left,
        Nat.add_mul_div_left _ _ (by omega), Nat.add_mul_mod_self_left, add_assoc q, add_comm (2 ^ i)]
    · exact ih (by omega) hq'

/-- The whole loop is floor division. -/
theorem divLoop_full {width n d : Nat} (hd : d ≠ 0) (hn : n < 2 ^ width) :
    divLoop n d width 0 0 = (n / d, n % d) := by
  rw [divLoop_eq width (Nat.pos_of_ne_zero hd) (dvd_zero _)]
  simp [Nat.mod_eq_of_lt hn]

/-- DivN is floor division, by its fast path and by its loop. -/
theorem divN_eq {width n d : Nat} (hd : d ≠ 0) (hn : n < 2 ^ width) : divN width n d = (n / d, n % d) := by
  rcases lt_or_ge n d with hlt | hge
  · rw [divN_of_lt hlt, Nat.div_eq_of_lt hlt, Nat.mod_eq_of_lt hlt]
  · rw [divN_of_le hge, divLoop_full hd hn]

/-- Settles O15: an induction over the bits left, with the partial remainder and the quotient bits set so far. -/
theorem restoringDivisionIsFloorDivision : Obligations.RestoringDivisionIsFloorDivision :=
  fun _ _ _ hd hn _ => ⟨divN_eq hd hn, divLoop_full hd hn⟩

/-! ### The multiplier, R118 -/

theorem mulHW_8_eq {a b : Nat} (ha : a < 2 ^ 8) (hb : b < 2 ^ 8) : mulHW 8 a b = a * b := by
  have hbyte {x : Nat} (hx : x < 2 ^ 8) : byteOf x 0 = x := (byteOf_zero x).trans (Nat.mod_eq_of_lt hx)
  rw [mulHW_8, hbyte ha, hbyte hb, Nat.shiftLeft_zero, Nat.zero_add]

/-- A 16-bit operand by its two bytes. -/
theorem byteOf_decompose {a : Nat} (ha : a < 2 ^ 16) : a = byteOf a 0 + 256 * byteOf a 1 := by
  rw [byteOf_zero, byteOf_one]
  omega

/-- The four partial products add up to the product. -/
theorem mulHW_16_eq {a b : Nat} (ha : a < 2 ^ 16) (hb : b < 2 ^ 16) : mulHW 16 a b = a * b := by
  rw [mulHW_16]
  conv_rhs => rw [byteOf_decompose ha, byteOf_decompose hb]
  simp only [Nat.shiftLeft_eq]
  ring

/-- The accumulator with bit `i` of `a` added in at the top. -/
theorem addIf_testBit (width a b i acc : Nat) :
    (if a.testBit i then acc + b <<< width else acc) = acc + a / 2 ^ i % 2 * (b * 2 ^ width) := by
  rw [Nat.testBit_eq_decide_div_mod_eq, Nat.shiftLeft_eq]
  rcases Nat.mod_two_eq_zero_or_one (a / 2 ^ i) with h | h <;> simp [h]

/-- The low `k + 1` bits of `a` from bit `i` on: bit `i`, and above it the low `k` bits from bit `i + 1` on. -/
theorem div_pow_mod_pow_succ (a i k : Nat) :
    a / 2 ^ i % 2 ^ (k + 1) = a / 2 ^ i % 2 + 2 * (a / 2 ^ (i + 1) % 2 ^ k) := by
  rw [pow_succ', Nat.mod_mul, Nat.div_div_eq_div_mul, ← pow_succ]

/-- The software loop from any iteration: what is left of `a`, times `b` at the top of the accumulator, then shifted
down by one place per iteration left. The bits it shifts out one by one are those of one division. -/
theorem mulSWLoop_eq (width a b k i acc : Nat) :
    mulSWLoop width a b k i acc = (acc + a / 2 ^ i % 2 ^ k * (b * 2 ^ width)) / 2 ^ k := by
  induction k generalizing i acc with
  | zero => simp [mulSWLoop, Nat.mod_one]
  | succ k ih =>
    rw [mulSWLoop_succ, addIf_testBit, Nat.shiftRight_one, ih, div_pow_mod_pow_succ, pow_succ' 2 k,
      ← Nat.div_div_eq_div_mul (_ + _), ← Nat.add_mul_div_left _ _ (by decide : 0 < 2)]
    congr 2
    ring

/-- The shift and add multiply is exact at every width. -/
theorem mulSW_eq {width a b : Nat} (ha : a < 2 ^ width) (hb : b < 2 ^ width) : mulSW width a b = a * b := by
  have hprod : a * b < 2 ^ (2 * width) := by
    rw [two_mul, pow_add]
    exact Nat.mul_lt_mul'' ha hb
  rw [mulSW, mulSWLoop_eq, pow_zero, Nat.div_one, Nat.mod_eq_of_lt ha, Nat.zero_add, ← mul_assoc,
    Nat.mul_div_cancel _ (Nat.two_pow_pos width), Nat.mod_eq_of_lt hprod]

/-- The multiplier of the model at the widths of R118. -/
theorem mulN_eq {width a b : Nat} (hwidth : width = 8 ∨ width = 16) (ha : a < 2 ^ width) (hb : b < 2 ^ width) :
    mulN width a b = a * b := by
  rcases hwidth with rfl | rfl
  · exact mulHW_8_eq ha hb
  · exact mulHW_16_eq ha hb

/-- Settles O16: the hardware path by the bytes of the operands, the software path by induction over the bits left. -/
theorem multiplierPathsGiveTheSameProduct : Obligations.MultiplierPathsGiveTheSameProduct :=
  fun _ _ _ hwidth ha hb => ⟨mulN_eq hwidth ha hb, mulSW_eq ha hb, mulN_eq hwidth ha hb⟩

/-! ### The commands -/

theorem opaField_lt (width : Nat) (s : State) : opaField width s < 2 ^ width := Nat.mod_lt _ (Nat.two_pow_pos width)

theorem opbField_lt (width : Nat) (s : State) : opbField width s < 2 ^ width := Nat.mod_lt _ (Nat.two_pow_pos width)

/-- R113 to R117 at every width, for a command that is the divide of that width. -/
theorem dividesAt_of_exec {width opc : Nat} {command : Bool → Instr} (hcode : EncodedAs opc command)
    (hexec : ∀ apply s, exec (command apply) s = .next (divide width s)) : DividesAt width opc command := by
  refine ⟨hcode, fun apply s => ?_⟩
  rw [hexec]
  rcases divide_cases width s with ⟨hzero, heq⟩ | ⟨hne, heq⟩
  · exact ⟨fun _ => by rw [heq]; rfl, fun hne => absurd hzero hne⟩
  · rw [divN_eq hne (opaField_lt width s)] at heq
    exact ⟨fun hzero => absurd hzero hne, fun _ => by rw [heq]; rfl⟩

/-- R120 and R121, for a command that is the multiply of that width. -/
theorem multipliesAt_of_exec {width opc : Nat} {command : Bool → Instr} (hwidth : width = 8 ∨ width = 16)
    (hcode : EncodedAs opc command) (hexec : ∀ apply s, exec (command apply) s = .next (multiply width s)) :
    MultipliesAt width opc command := by
  refine ⟨hcode, fun apply s => ?_⟩
  rw [hexec, multiply, mulN_eq hwidth (opaField_lt width s) (opbField_lt width s)]
  rfl

/-- Settles O9: opcode 0x01 is the divide at width 8, and DivN is floor division. -/
theorem div8GivesQuotientAndRemainder : Obligations.Div8GivesQuotientAndRemainder :=
  dividesAt_of_exec (encodedAs_of_commandOf fun _ => rfl) fun _ _ => rfl

/-- Settles O10: opcode 0x02 is the divide at width 16, and DivN is floor division. -/
theorem div16GivesQuotientAndRemainder : Obligations.Div16GivesQuotientAndRemainder :=
  dividesAt_of_exec (encodedAs_of_commandOf fun _ => rfl) fun _ _ => rfl

/-- Settles O11: opcode 0x03 is the divide at width 24, and DivN is floor division. -/
theorem div24GivesQuotientAndRemainder : Obligations.Div24GivesQuotientAndRemainder :=
  dividesAt_of_exec (encodedAs_of_commandOf fun _ => rfl) fun _ _ => rfl

/-- Settles O12: opcode 0x04 is the divide at width 32, and DivN is floor division. -/
theorem div32GivesQuotientAndRemainder : Obligations.Div32GivesQuotientAndRemainder :=
  dividesAt_of_exec (encodedAs_of_commandOf fun _ => rfl) fun _ _ => rfl

/-- Settles O13: opcode 0x08 is the multiply at width 8, and MulN is exact there. -/
theorem mul8GivesTheExactProduct : Obligations.Mul8GivesTheExactProduct :=
  multipliesAt_of_exec (.inl rfl) (encodedAs_of_commandOf fun _ => rfl) fun _ _ => rfl

/-- Settles O14: opcode 0x09 is the multiply at width 16, and MulN is exact there. -/
theorem mul16GivesTheExactProduct : Obligations.Mul16GivesTheExactProduct :=
  multipliesAt_of_exec (.inr rfl) (encodedAs_of_commandOf fun _ => rfl) fun _ _ => rfl

/-- Settles O8: opcode 0x00 is NOP, whose rule is the completion alone. -/
theorem nopHasNoEffectButCompletion : Obligations.NopHasNoEffectButCompletion :=
  ⟨encodedAs_of_commandOf fun _ => rfl, fun _ _ => rfl⟩

end Sys2Proof.Machine
end

section
/-! The scalar scan of the 11-bit solver (spec/41_pwm11.md R134): the invariant of its loop, and the statement it gives
after the last scalar. -/

namespace Sys2Proof.Machine

open Sys2Proof.Claims

/-! ### The loop invariant -/

/-- `BestScalar` among the scalars 1 to n. -/
def BestScalarUpTo (odd : Bool) (r n s : Nat) : Prop :=
  1 ≤ s ∧ s ≤ n ∧ QuotientAllowed odd (r / s) ∧
  ∀ s', 1 ≤ s' → s' ≤ n → QuotientAllowed odd (r / s') → r % s ≤ r % s' ∧ (s' < s → r % s < r % s')

/-- What the scan holds after the scalars 1 to n: nothing while none of them is allowed, then the best of them. -/
inductive ScanHolds (odd : Bool) (r n : Nat) : Option Candidate → Prop
  | none (hnone : ∀ s, 1 ≤ s → s ≤ n → ¬ QuotientAllowed odd (r / s)) : ScanHolds odd r n none
  | some (s : Nat) (hbest : BestScalarUpTo odd r n s) : ScanHolds odd r n (some ⟨s, r / s, r % s⟩)

theorem bestScalarUpTo_32 {odd : Bool} {r s : Nat} : BestScalarUpTo odd r 32 s ↔ BestScalar odd r s := Iff.rfl

/-- The acceptance test of the model is the one of the claims. -/
theorem quotientFits_iff {odd : Bool} {q : Nat} : quotientFits odd q = true ↔ QuotientAllowed odd q := by
  cases odd <;> simp [quotientFits, QuotientAllowed, and_assoc]

/-- No allowed scalar that the scan has passed has a remainder below the best so far. -/
theorem bestSoFar_le_of_scanHolds {odd : Bool} {r n s : Nat} {best : Option Candidate}
    (hbest : ScanHolds odd r n best) (h1 : 1 ≤ s) (hn : s ≤ n) (hs : QuotientAllowed odd (r / s)) :
    bestSoFar best ≤ r % s := by
  cases hbest with
  | none hnone => exact absurd hs (hnone s h1 hn)
  | some t ht =>
    obtain ⟨_, _, _, hleast⟩ := ht
    exact (hleast s h1 hn hs).1

/-- A scalar that is accepted is the best so far: its remainder is below that of every one before it. -/
theorem bestScalarUpTo_succ_of_accepted {odd : Bool} {r n : Nat} {best : Option Candidate}
    (hbest : ScanHolds odd r n best) (hless : r % (n + 1) < bestSoFar best)
    (hfits : QuotientAllowed odd (r / (n + 1))) : BestScalarUpTo odd r (n + 1) (n + 1) := by
  refine ⟨Nat.le_add_left 1 n, le_rfl, hfits, fun s h1 hs hallowed => ?_⟩
  rcases Nat.le_succ_iff.1 hs with hn | rfl
  · have hlt := hless.trans_le (bestSoFar_le_of_scanHolds hbest h1 hn hallowed)
    exact ⟨hlt.le, fun _ => hlt⟩
  · exact ⟨le_rfl, fun h => absurd h (lt_irrefl _)⟩

/-- A scalar that is rejected is not allowed, or its remainder is no smaller, so what the scan holds stays right. Before
the first candidate the 32 of `bestSoFar` is above every remainder, so then the scalar is not allowed. -/
theorem scanHolds_succ_of_rejected {odd : Bool} {r n : Nat} {best : Option Candidate} (hn : n < 32)
    (hbest : ScanHolds odd r n best)
    (hnot : QuotientAllowed odd (r / (n + 1)) → bestSoFar best ≤ r % (n + 1)) : ScanHolds odd r (n + 1) best := by
  cases hbest with
  | none hnone =>
    refine .none fun s h1 hs hallowed => ?_
    rcases Nat.le_succ_iff.1 hs with hle | rfl
    · exact hnone s h1 hle hallowed
    · have h32 : 32 ≤ r % (n + 1) := hnot hallowed
      have hmod : r % (n + 1) < n + 1 := Nat.mod_lt _ n.succ_pos
      omega
  | some t ht =>
    obtain ⟨hpos, hle, hfits, hleast⟩ := ht
    refine .some t ⟨hpos, Nat.le_succ_of_le hle, hfits, fun s h1 hs hallowed => ?_⟩
    rcases Nat.le_succ_iff.1 hs with hsn | rfl
    · exact hleast s h1 hsn hallowed
    · exact ⟨hnot hallowed, fun h => absurd (Nat.le_succ_of_le hle) h.not_ge⟩

/-- One iteration of the scan keeps the invariant. -/
theorem scanHolds_tryScalar {odd : Bool} {r n : Nat} {best : Option Candidate} (hn : n < 32)
    (hbest : ScanHolds odd r n best) : ScanHolds odd r (n + 1) (tryScalar odd r best (n + 1)) := by
  unfold tryScalar
  split_ifs with haccept
  · obtain ⟨hless, hfits⟩ := haccept
    exact .some (n + 1) (bestScalarUpTo_succ_of_accepted hbest hless (quotientFits_iff.1 hfits))
  · refine scanHolds_succ_of_rejected hn hbest fun hallowed => ?_
    exact not_lt.1 fun hless => haccept ⟨hless, quotientFits_iff.2 hallowed⟩

/-- The invariant after any number of iterations, by induction on it. -/
theorem scanHolds_foldl (odd : Bool) (r : Nat) {n : Nat} (hn : n ≤ 32) :
    ScanHolds odd r n ((List.range' 1 n).foldl (tryScalar odd r) none) := by
  induction n with
  | zero => exact .none fun s h1 h0 => absurd h0 (Nat.not_le.2 h1)
  | succ n ih =>
    rw [List.range'_1_concat, List.foldl_concat, Nat.add_comm 1 n]
    exact scanHolds_tryScalar hn (ih (Nat.le_of_succ_le hn))

theorem scanHolds_scalarSearch (odd : Bool) (r : Nat) : ScanHolds odd r 32 (scalarSearch odd r) := by
  rw [scalarSearch_eq]
  exact scanHolds_foldl odd r le_rfl

/-! ### What the scan answers -/

/-- Of two different scalars the larger would need both a remainder strictly below the other's and one no larger. -/
theorem bestScalar_unique {odd : Bool} {r s t : Nat} (hs : BestScalar odd r s) (ht : BestScalar odd r t) :
    s = t := by
  obtain ⟨hs1, hs32, hsq, hsleast⟩ := hs
  obtain ⟨ht1, ht32, htq, htleast⟩ := ht
  obtain ⟨hst, hst'⟩ := hsleast t ht1 ht32 htq
  obtain ⟨hts, hts'⟩ := htleast s hs1 hs32 hsq
  rcases lt_trichotomy s t with hlt | heq | hgt
  · exact absurd hst (hts' hlt).not_ge
  · exact heq
  · exact absurd hts (hst' hgt).not_ge

theorem not_noScalar_of_bestScalar {odd : Bool} {r s : Nat} (hs : BestScalar odd r s) : ¬ NoScalar odd r := by
  obtain ⟨h1, h32, hallowed, _⟩ := hs
  exact fun hnone => hnone s h1 h32 hallowed

/-- Settles O21: the scan's loop invariant after scalar 32, and that the best scalar is unique. -/
theorem scalarSearchFindsTheFirstLeastRemainder : Obligations.ScalarSearchFindsTheFirstLeastRemainder := by
  intro odd r
  have hscan := scanHolds_scalarSearch odd r
  generalize scalarSearch odd r = found at hscan ⊢
  cases hscan with
  | none hnone =>
    refine ⟨fun c => ⟨fun h => (nomatch h), ?_⟩, fun _ => hnone, fun _ => rfl⟩
    rintro ⟨hbest, _⟩
    exact absurd hnone (not_noScalar_of_bestScalar hbest)
  | some s hbest =>
    rw [bestScalarUpTo_32] at hbest
    refine ⟨fun c => ⟨?_, ?_⟩, fun h => (nomatch h), fun hnone => absurd hnone (not_noScalar_of_bestScalar hbest)⟩
    · rintro ⟨⟩
      exact ⟨hbest, rfl, rfl⟩
    · rintro ⟨hc, hquot, hrem⟩
      rw [bestScalar_unique hbest hc, ← hquot, ← hrem]

end Sys2Proof.Machine
end

section
/-! The 8-bit timer solver (spec/42_tm8.md): the nested search of R153 is the closed form of R159, and the bound that
TM8_DUTY writes is the rounded one of R157. -/

namespace Sys2Proof.Machine

open Sys2Proof.Claims

/-! ### One pass over the bounds, R153 -/

/-- In a list in strict order, what comes before one of its members stands to the left of it. -/
theorem mem_left_of_pairwise {α : Type*} {R : α → α → Prop} [Std.Asymm R] {left right : List α} {a b : α}
    (hsorted : (left ++ a :: right).Pairwise R) (hb : b ∈ left ++ a :: right) (hba : R b a) : b ∈ left := by
  obtain ⟨_, hright, _⟩ := List.pairwise_append.1 hsorted
  rcases List.mem_append.1 hb with hleft | htail
  · exact hleft
  · rcases List.mem_cons.1 htail with rfl | hmem
    · exact absurd hba (asymm hba)
    · exact absurd hba (asymm (List.rel_of_pairwise_cons hright hmem))

theorem mem_boundsDescending {bd : Nat} : bd ∈ boundsDescending ↔ 1 ≤ bd ∧ bd ≤ 255 := by
  rw [boundsDescending, List.mem_reverse, List.mem_range'_1]
  omega

theorem boundsDescending_pairwise : boundsDescending.Pairwise (· > ·) :=
  List.pairwise_reverse.2 List.pairwise_lt_range'

/-- The bounds that a pass at one tolerance accepts. -/
theorem mem_and_boundAccepted_iff {r tol bd : Nat} :
    bd ∈ boundsDescending ∧ boundAccepted r tol bd = true ↔ BoundInRange r bd ∧ r % (bd + 1) ≤ tol := by
  rw [mem_boundsDescending]
  simp only [boundAccepted, BoundInRange, Bool.and_eq_true, decide_eq_true_eq]
  tauto

/-- A pass finds nothing exactly when every remainder is above its tolerance. -/
theorem find?_boundAccepted_eq_none_iff {r tol : Nat} :
    boundsDescending.find? (boundAccepted r tol) = none ↔ ∀ bd, BoundInRange r bd → tol < r % (bd + 1) := by
  rw [List.find?_eq_none]
  refine forall_congr' fun bd => ?_
  rw [← not_and, mem_and_boundAccepted_iff, not_and, not_le]

/-- A pass that finds a bound finds the largest one it accepts. -/
theorem find?_boundAccepted_eq_some {r tol bd : Nat} (h : boundsDescending.find? (boundAccepted r tol) = some bd) :
    (BoundInRange r bd ∧ r % (bd + 1) ≤ tol) ∧ ∀ bd', BoundInRange r bd' → bd < bd' → tol < r % (bd' + 1) := by
  refine ⟨mem_and_boundAccepted_iff.1 ⟨List.mem_of_find?_eq_some h, List.find?_some h⟩, fun bd' hrange hlt => ?_⟩
  obtain ⟨_, larger, smaller, hsplit, hrejected⟩ := List.find?_eq_some_iff_append.1 h
  by_contra hle
  obtain ⟨hmem, haccepted⟩ := mem_and_boundAccepted_iff.2 ⟨hrange, not_lt.1 hle⟩
  have hlarger : bd' ∈ larger :=
    mem_left_of_pairwise (hsplit ▸ boundsDescending_pairwise) (hsplit ▸ hmem) hlt
  simpa [haccepted] using hrejected bd' hlarger

/-! ### The passes in turn, R153 and R159 -/

/-- The search answers the bound of the first pass that finds one. -/
theorem toleranceSearch_eq_some {r tol bd : Nat} (h : toleranceSearch r = some (tol, bd)) :
    boundsDescending.find? (boundAccepted r tol) = some bd ∧
    ∀ tol' < tol, boundsDescending.find? (boundAccepted r tol') = none := by
  obtain ⟨earlier, first, later, hsplit, hfound, hearlier⟩ := List.findSome?_eq_some_iff.1 h
  obtain ⟨bd', hbd', hpair⟩ := Option.map_eq_some_iff.1 hfound
  obtain ⟨rfl, rfl⟩ := Prod.mk.inj hpair
  refine ⟨hbd', fun tol' hlt => ?_⟩
  have hmem : tol' ∈ List.range 32 := List.mem_range.2 (hlt.trans (toleranceSearch_tolerance_lt h))
  exact Option.map_eq_none_iff.1 (hearlier tol'
    (mem_left_of_pairwise (hsplit ▸ List.pairwise_lt_range) (hsplit ▸ hmem) hlt))

/-- Nothing found: no pass found a bound, and the one at tolerance 31 accepts what any of them does. -/
theorem noBound_of_toleranceSearch {r : Nat} (h : toleranceSearch r = none) : NoBound r :=
  find?_boundAccepted_eq_none_iff.1
    (Option.map_eq_none_iff.1 (List.findSome?_eq_none_iff.1 h 31 (List.mem_range.2 (by decide))))

/-- The passes before the one that finds a bound show that no remainder is below its tolerance, so the tolerance is the
least remainder; that pass shows that no larger bound has it. -/
theorem bestBound_of_toleranceSearch {r tol bd : Nat} (h : toleranceSearch r = some (tol, bd)) :
    BestBound r bd ∧ tol = r % (bd + 1) := by
  obtain ⟨hfound, hearlier⟩ := toleranceSearch_eq_some h
  obtain ⟨⟨hrange, hle⟩, hlargest⟩ := find?_boundAccepted_eq_some hfound
  have htol : tol < 32 := toleranceSearch_tolerance_lt h
  have hleast : ∀ bd', BoundInRange r bd' → tol ≤ r % (bd' + 1) := fun bd' hrange' =>
    not_lt.1 fun hlt => lt_irrefl _ (find?_boundAccepted_eq_none_iff.1 (hearlier _ hlt) bd' hrange')
  obtain rfl : tol = r % (bd + 1) := le_antisymm (hleast bd hrange) hle
  exact ⟨⟨hrange, Nat.le_of_lt_succ htol, fun bd' hrange' => ⟨hleast bd' hrange', hlargest bd' hrange'⟩⟩, rfl⟩

/-- Of two different bounds the smaller would need both a remainder strictly below the other's and one no smaller. -/
theorem bestBound_unique {r bd bd' : Nat} (h : BestBound r bd) (h' : BestBound r bd') : bd = bd' := by
  obtain ⟨hrange, _, hleast⟩ := h
  obtain ⟨hrange', _, hleast'⟩ := h'
  obtain ⟨hle, hlt⟩ := hleast bd' hrange'
  obtain ⟨hle', hlt'⟩ := hleast' bd hrange
  rcases lt_trichotomy bd bd' with hsmaller | heq | hlarger
  · exact absurd hle' (hlt hsmaller).not_ge
  · exact heq
  · exact absurd hle (hlt' hlarger).not_ge

theorem not_noBound_of_bestBound {r bd : Nat} (h : BestBound r bd) : ¬ NoBound r := by
  obtain ⟨hrange, hle, _⟩ := h
  exact fun hnone => (hnone bd hrange).not_ge hle

/-- Settles O26: by what the search answers; the closed form has at most one bound. -/
theorem toleranceSearchEqualsItsClosedForm : Obligations.ToleranceSearchEqualsItsClosedForm := by
  intro r
  cases hsearch : toleranceSearch r with
  | none =>
    have hnone := noBound_of_toleranceSearch hsearch
    refine ⟨fun tol bd => ⟨fun h => (nomatch h), ?_⟩, fun _ => hnone, fun _ => rfl⟩
    rintro ⟨hbest, _⟩
    exact absurd hnone (not_noBound_of_bestBound hbest)
  | some found =>
    obtain ⟨hbest, htol⟩ := bestBound_of_toleranceSearch hsearch
    refine ⟨fun tol bd => ⟨?_, ?_⟩, fun h => (nomatch h), fun hnone => absurd hnone (not_noBound_of_bestBound hbest)⟩
    · rintro ⟨⟩
      exact ⟨hbest, htol⟩
    · rintro ⟨hbd, rfl⟩
      rw [bestBound_unique hbd hbest, ← htol]

/-! ### TM8_DUTY, R157 -/

/-- The rounding of the model by DivN: half a hundred added before the division. -/
theorem roundPercent_eq {n : Nat} (hn : n < 2 ^ 32) : roundPercent n = (n + 50) / 100 := by
  rw [roundPercent, divN_eq (by decide) hn]
  split_ifs with hup <;> omega

theorem depthOf_le (depth64 : Bool) : depthOf depth64 ≤ 256 := by
  cases depth64 <;> decide

/-- The product fits the 32 bits of the division, for a percentage of at most 100 and a depth of at most 256. -/
theorem dutyBound_depthOf (percent : Nat) (depth64 : Bool) :
    dutyBound percent (depthOf depth64) = tm8DutyBound percent depth64 := by
  have hprod : min percent 100 * depthOf depth64 ≤ 100 * 256 :=
    Nat.mul_le_mul (Nat.min_le_right _ _) (depthOf_le depth64)
  rw [dutyBound, roundPercent_eq (by omega), tm8DutyBound, depthOf]

/-- Settles O25: opcode 0x19 is TM8_DUTY, and the bound it writes is the rounded one. -/
theorem tm8DutyWritesTheBound : Obligations.Tm8DutyWritesTheBound := by
  refine ⟨encodedAs_of_commandOf fun _ => rfl, fun apply s => ?_⟩
  rw [← dutyBound_depthOf]
  cases apply <;> rfl

end Sys2Proof.Machine
end

section
/-! The stepper commands, the step events and the two conversions (spec/43_stepper.md): the model's operations are those
of the claims, each command is its rule in one record, and a second teardown changes nothing. -/

namespace Sys2Proof.Machine

open Sys2Proof.Claims

/-! ### The model's operations in the words of the claims -/

theorem clearMotion_eq_motionCleared (s : State) : clearMotion s = motionCleared s := rfl

theorem setRun_src_eq_sourceRun (v : Bool) (s : State) : setRun s.stp.src v s = sourceRun v s := setRun_eq _ _ _

theorem motionStopped_eq (s : State) : motionStopped s = motionCleared (sourceRun false s) := by
  rw [motionStopped, setRun_src_eq_sourceRun, clearMotion_eq_motionCleared]

theorem opaBit_eq (s : State) : opaBit s = (s.snap.opa.toNat % 2 == 1) := by
  rw [opaBit, getLsbD_eq_decide, pow_zero, Nat.div_one, beq_eq_decide]

theorem opaSource_eq (s : State) : opaSource s = if s.snap.opa.toNat % 2 = 1 then .tm8 else .pwm := by
  simp only [opaSource, opaBit_eq, beq_iff_eq]

theorem canStart_eq_false_iff (s : State) : canStart s.stp.mode = false ↔ ¬ Startable s := by
  rw [Startable, ← canStart_eq_true, Bool.not_eq_true]

theorem unitsPerRev_eq_zero_iff (s : State) : unitsPerRev s = 0 ↔ s.snap.stpUpr = 0 := BitVec.toNat_inj (y := 0)

theorem stepsPerRev_eq_zero_iff (s : State) : stepsPerRev s = 0 ↔ s.snap.stpSpr = 0 := BitVec.toNat_inj (y := 0)

/-! ### Velocity and distance, R173 and R174 -/

/-- The product of two 16-bit operands fits the 32 bits of the division. -/
theorem mul_lt_two_pow_32 {a b : Nat} (ha : a < 65536) (hb : b < 65536) : a * b < 2 ^ 32 :=
  (Nat.mul_lt_mul'' ha hb).trans_eq (by decide)

theorem velToFreq_eq {v spr upr : Nat} (hv : v < 65536) (hspr : spr < 65536) (hupr : upr < 65536) (hne : upr ≠ 0) :
    velToFreq v spr upr = pulseFrequency v spr upr := by
  have hden : 60 * upr ≠ 0 := by omega
  rw [velToFreq, mulN_eq (.inr rfl) hv hspr, mulN_eq (.inr rfl) (by decide) hupr,
    divN_eq hden (mul_lt_two_pow_32 hv hspr), pulseFrequency]
  by_cases hzero : v * spr / (60 * upr) = 0
  · rw [if_pos hzero, hzero, Nat.zero_max]
  · rw [if_neg hzero, max_eq_left (Nat.pos_of_ne_zero hzero)]

theorem planMove_eq {dist spr upr : Nat} (hdist : dist < 65536) (hspr : spr < 65536) (hne : upr ≠ 0) :
    planMove dist spr upr = (dist / upr, dist % upr * spr / upr) := by
  have hrem : dist % upr < 65536 := (Nat.mod_le _ _).trans_lt hdist
  rw [planMove, divN_eq hne hdist, mulN_eq (.inr rfl) hrem hspr, divN_eq hne (mul_lt_two_pow_32 hrem hspr)]

/-- Settles O41: MulN and DivN are exact at these widths. -/
theorem velocityConvertsToFrequency : Obligations.VelocityConvertsToFrequency := by
  intro v spr upr hv hspr hupr hne
  have hprod := mul_lt_two_pow_32 hv hspr
  have hquot : v * spr / (60 * upr) ≤ v * spr := Nat.div_le_self _ _
  rw [velToFreq_eq hv hspr hupr hne]
  exact ⟨hprod, rfl, le_max_right _ _, max_lt (hquot.trans_lt hprod) (by decide)⟩

/-- Settles O42: the remainder is below `upr`, so its share of `spr` is below `spr`. -/
theorem planMoveSplitsTheDistance : Obligations.PlanMoveSplitsTheDistance := by
  intro dist spr upr hdist hspr _ hne hspr0
  rw [planMove_eq hdist hspr hne]
  refine ⟨rfl, Nat.div_lt_of_lt_mul ?_⟩
  exact Nat.mul_lt_mul_of_pos_right (Nat.mod_lt _ (Nat.pos_of_ne_zero hne)) (Nat.pos_of_ne_zero hspr0)

/-! ### Step events, R196, R197 and R199 -/

theorem endOfMove_eq_moveEnded (s : State) : endOfMove s = moveEnded s := endOfMove_eq s

theorem countStep_eq_eventCounted (s : State) : countStep s = eventCounted s := by
  unfold eventCounted nextCount
  rcases countStep_cases s with ⟨hc, hr, hf, h⟩ | ⟨hc, hgo, h⟩ | ⟨hc, hr, hf, h⟩ | ⟨hc, hgo, h⟩ <;> rw [h]
  · rw [if_pos hc, if_pos ⟨hr, hf.symm⟩, endOfMove_eq_moveEnded]; rfl
  · rw [if_pos hc, if_neg fun hend => hgo ⟨hend.1, hend.2.symm⟩]
  · rw [if_neg hc, if_pos ⟨hr, hf.symm⟩, endOfMove_eq_moveEnded]; rfl
  · rw [if_neg hc, if_neg fun hend => hgo ⟨hend.1, hend.2.symm⟩]

theorem stepEvent_eq_eventTaken (ch : Channel) (s : State) : stepEvent ch s = eventTaken ch s := by
  unfold eventTaken
  rcases stepEvent_cases ch s with ⟨hign, h⟩ | ⟨hm, ha, rfl, hcase⟩
  · rw [h, if_pos hign]
  · have htaken : ¬ EventIgnored s.stp.src s := by simp [EventIgnored, hm, ha]
    rw [if_neg htaken]
    rcases hcase with ⟨hsrc, h⟩ | ⟨hsrc, hp, h⟩ | ⟨hsrc, hp, h⟩ <;> rw [h]
    · simp [hsrc, countStep_eq_eventCounted]
    · simp [hsrc, hp]
    · simp [hsrc, hp, countStep_eq_eventCounted]

theorem stepEvent_of_ignored {ch : Channel} {s : State} (h : EventIgnored ch s) : stepEvent ch s = s := by
  rw [stepEvent_eq_eventTaken, eventTaken, if_pos h]

/-- A pulse is a step event of its channel, and nothing while `rst` is asserted. -/
theorem step_pulse {s : State} {ch : Channel} (h : s.inputs.head? = some (pulseOf ch)) :
    step s = .next (if s.rst then entryTaken s else stepEvent ch (entryTaken s)) := by
  obtain ⟨rest, hin⟩ := List.head?_eq_some_iff.1 h
  have hentry : { s with inputs := rest } = entryTaken s := by rw [entryTaken, hin]; rfl
  rw [step_input_cons hin (by cases ch <;> decide), hentry]
  cases ch <;> rfl

theorem exec_stpEvent (apply : Bool) (s : State) :
    exec (.stpEvent apply) s = .next (succeeded (stepEvent s.stp.src s)) := rfl

/-- Settles O38: STP_EVENT is the step event of the bound source. -/
theorem stpEventAppliesOneEventOfTheBoundSource : Obligations.StpEventAppliesOneEventOfTheBoundSource := by
  refine ⟨encodedAs_of_commandOf fun _ => rfl, fun apply s => ?_⟩
  rw [exec_stpEvent, stepEvent_eq_eventTaken]

/-- Settles O39: a pulse and an STP_EVENT are both `stepEvent`, which is the step event of R196. -/
theorem pulseIsOneStepEvent : Obligations.PulseIsOneStepEvent := by
  constructor
  · intro s ch hrst hpulse
    rw [step_pulse hpulse, hrst, if_neg Bool.false_ne_true, stepEvent_eq_eventTaken]
  · intro s apply hnext hdec
    rw [step_of_engineNext hnext, completeCommand_ok (s := entryTaken s) hdec, exec_stpEvent, stepEvent_eq_eventTaken]
    rfl

/-- Settles O40: in reset a pulse only takes its entry, and otherwise so does one that is ignored. -/
theorem ignoredEventsChangeNothing : Obligations.IgnoredEventsChangeNothing := by
  constructor
  · intro s ch hpulse hignored
    have hsame : stepEvent ch (entryTaken s) = entryTaken s :=
      stepEvent_of_ignored (hignored.imp_right .inr)
    rw [step_pulse hpulse, hsame, ite_self]
  · intro s apply hm
    rw [exec_stpEvent, stepEvent_of_ignored (.inl hm)]

/-! ### The commands, R175 to R185 -/

/-- Settles O29: opcode 0x20 is STP_INIT, whose record is that of R175. -/
theorem stpInitBindsAndStopsTheOldAndTheNewSource : Obligations.StpInitBindsAndStopsTheOldAndTheNewSource := by
  refine ⟨encodedAs_of_commandOf fun _ => rfl, ?_⟩
  rintro apply s _ rfl
  rw [← opaSource_eq]
  exact execStpInit_eq apply s

/-- Settles O30: the cases of STP_ENABLE by STATE. -/
theorem stpEnableLeavesIdle : Obligations.StpEnableLeavesIdle := by
  refine ⟨encodedAs_of_commandOf fun _ => rfl, fun apply s => ?_⟩
  rcases execStpEnable_cases apply s with ⟨hm, h⟩ | ⟨hm, h⟩ | ⟨hbound, hleft, h⟩
  · exact ⟨fun _ => h, fun hidle => by simp [hm] at hidle, fun hbound => absurd hm hbound⟩
  · exact ⟨fun hun => by simp [hm] at hun, fun _ => h, fun _ hleft => absurd hm hleft⟩
  · exact ⟨fun hun => absurd hun hbound, fun hidle => absurd hidle hleft, fun _ _ => h⟩

/-- Settles O31: the cases of STP_SET_DIR by STATE. -/
theorem stpSetDirWritesTheDirection : Obligations.StpSetDirWritesTheDirection := by
  refine ⟨encodedAs_of_commandOf fun _ => rfl, fun apply s => ?_⟩
  rw [← opaBit_eq]
  rcases execStpSetDir_cases apply s with ⟨hm, h⟩ | ⟨hbound, h⟩
  · exact ⟨fun _ => h, fun hbound => absurd hm hbound⟩
  · exact ⟨fun hun => absurd hun hbound, fun _ => h⟩

/-- Settles O33: the cases of STP_RUN by STATE. -/
theorem stpRunStartsContinuousMotion : Obligations.StpRunStartsContinuousMotion := by
  refine ⟨encodedAs_of_commandOf fun _ => rfl, fun apply s => ?_⟩
  rcases execStpRun_cases apply s with ⟨hno, h⟩ | ⟨hyes, h⟩
  · exact ⟨fun _ => h, fun hyes => absurd hyes ((canStart_eq_false_iff s).1 hno)⟩
  · refine ⟨fun hno => absurd ((canStart_eq_true _).1 hyes) hno, fun _ => ?_⟩
    rw [setRun_eq] at h
    exact h

/-- Past its checks STP_MOVE starts the move that R174 plans. -/
theorem execStpMove_planned (apply : Bool) {s : State} (hstart : Startable s) (hupr : s.snap.stpUpr ≠ 0)
    (hspr : s.snap.stpSpr ≠ 0) :
    execStpMove apply s = .next (complete (startMove (s.snap.opa.toNat % 65536 / s.snap.stpUpr.toNat)
      (s.snap.opa.toNat % 65536 % s.snap.stpUpr.toNat * s.snap.stpSpr.toNat / s.snap.stpUpr.toNat)
      (clearMotion s))) := by
  have hyes : canStart s.stp.mode ≠ false := fun hno => (canStart_eq_false_iff s).1 hno hstart
  have hupr' : unitsPerRev s ≠ 0 := mt (unitsPerRev_eq_zero_iff s).1 hupr
  have hspr' : stepsPerRev s ≠ 0 := mt (stepsPerRev_eq_zero_iff s).1 hspr
  have hplan := planMove_eq (opaField_lt 16 s) s.snap.stpSpr.isLt hupr'
  rw [execStpMove, if_neg hyes, if_neg hupr', if_neg hspr', moveDistance, stepsPerRev, hplan]
  rfl

/-- Settles O34: the checks of STP_MOVE in order, and the two ways the planned move starts. -/
theorem stpMoveStartsAPlannedMove : Obligations.StpMoveStartsAPlannedMove := by
  refine ⟨encodedAs_of_commandOf fun _ => rfl, ?_⟩
  rintro apply s revs fin rfl rfl
  have hyes (hstart : Startable s) : canStart s.stp.mode ≠ false := fun hno => (canStart_eq_false_iff s).1 hno hstart
  refine ⟨fun hno => if_pos ((canStart_eq_false_iff s).2 hno), fun hstart hupr => ?_, fun hstart hupr hspr => ?_,
    fun hstart hupr hspr hrevs hfin => ?_, fun hstart hupr hspr hfar => ?_⟩
  · exact (if_neg (hyes hstart)).trans (if_pos ((unitsPerRev_eq_zero_iff s).2 hupr))
  · exact (if_neg (hyes hstart)).trans
      ((if_neg (mt (unitsPerRev_eq_zero_iff s).1 hupr)).trans (if_pos ((stepsPerRev_eq_zero_iff s).2 hspr)))
  · have h := execStpMove_planned apply hstart hupr hspr
    rw [startMove, if_pos ⟨hrevs, hfin⟩] at h
    exact h
  · have h := execStpMove_planned apply hstart hupr hspr
    obtain ⟨_, hmove⟩ := (startMove_cases _ _ (clearMotion s)).resolve_left
      fun ⟨hrevs, hfin, _⟩ => hfar.elim (· hrevs) (· hfin)
    rw [hmove] at h
    exact h

/-- Settles O35: the cases of STP_STOP by STATE. -/
theorem stpStopStopsTheMotion : Obligations.StpStopStopsTheMotion := by
  refine ⟨encodedAs_of_commandOf fun _ => rfl, fun apply s => ?_⟩
  rw [← isMovingMode_eq_true]
  rcases execStpStop_cases apply s with ⟨hm, h⟩ | ⟨hmoving, h⟩ | ⟨hbound, hstill, h⟩
  · exact ⟨fun _ => h, fun hmoving => by simp [hm] at hmoving, fun hstill => by simp [hm] at hstill⟩
  · rw [motionStopped_eq] at h
    refine ⟨fun hun => by simp [hun] at hmoving, fun _ => h, fun hstill => ?_⟩
    rcases hstill with hm | hm | hm <;> simp [hm] at hmoving
  · rw [motionStopped_eq] at h
    exact ⟨fun hun => absurd hun hbound, fun hmoving => by simp [hmoving] at hstill, fun _ => h⟩

/-- Settles O36: the cases of STP_DISABLE by STATE. -/
theorem stpDisableGoesToIdle : Obligations.StpDisableGoesToIdle := by
  refine ⟨encodedAs_of_commandOf fun _ => rfl, fun apply s => ?_⟩
  rcases execStpDisable_cases apply s with ⟨hm, h⟩ | ⟨hbound, h⟩
  · exact ⟨fun _ => h, fun hbound => absurd hm hbound⟩
  · rw [motionStopped_eq] at h
    exact ⟨fun hun => absurd hun hbound, fun _ => h⟩

/-- Settles O37: the cases of STP_RELEASE by STATE; with the motion cleared every field of STP_STATE is 0. -/
theorem stpReleaseUnbindsAndFloatsThePins : Obligations.StpReleaseUnbindsAndFloatsThePins := by
  refine ⟨encodedAs_of_commandOf fun _ => rfl, fun apply s => ?_⟩
  rcases execStpRelease_cases apply s with ⟨hm, h⟩ | ⟨hbound, h⟩
  · exact ⟨fun _ => h, fun hbound => absurd hm hbound⟩
  · rw [motionStopped_eq] at h
    exact ⟨fun hun => absurd hun hbound, fun _ => h⟩

/-! ### A second teardown, R187 -/

/-- The state that STP_STOP and STP_DISABLE leave of a bound stepper: its motion stopped, with STATE and the enable pin
as the command gives them. -/
def tornDown (m : StpMode) (en : Bool) (s : State) : State :=
  complete { motionStopped s with stp := { (motionStopped s).stp with pinEn := en, mode := m } }

/-- The first teardown has already stopped all that the second one stops: the source bound is the same. -/
theorem tornDown_tornDown (m m' : StpMode) (en en' : Bool) (s : State) :
    tornDown m en (tornDown m' en' s) = tornDown m en s := by
  cases hs : s.stp.src <;> simp [tornDown, motionStopped_eq, motionCleared, sourceRun, setCompleted, hs]

theorem tornDown_stp (m : StpMode) (en : Bool) (s : State) :
    (tornDown m en s).stp = { (motionCleared s).stp with pinEn := en, mode := m } := by
  rw [tornDown, motionStopped_eq]
  rfl

theorem tornDown_err (m : StpMode) (en : Bool) (s : State) : (tornDown m en s).err = s.err := by
  simp [tornDown, motionStopped]

theorem tornDown_errCode (m : StpMode) (en : Bool) (s : State) : (tornDown m en s).errCode = s.errCode := by
  simp [tornDown, motionStopped]

/-- STATE after a commanded stop (R183): a moving one becomes STOPPED. -/
def stoppedMode (m : StpMode) : StpMode := if isMovingMode m then .stopped else m

theorem stoppedMode_idem (m : StpMode) : stoppedMode (stoppedMode m) = stoppedMode m := by
  cases m <;> rfl

theorem stoppedMode_ne_uninit {m : StpMode} (h : m ≠ .uninit) : stoppedMode m ≠ .uninit := by
  unfold stoppedMode
  split_ifs
  · decide
  · exact h

theorem execStpStop_bound (a : Bool) {s : State} (h : s.stp.mode ≠ .uninit) :
    execStpStop a s = .next (tornDown (stoppedMode s.stp.mode) s.stp.pinEn s) := by
  rcases execStpStop_cases a s with ⟨hun, _⟩ | ⟨hmoving, hexec⟩ | ⟨_, hstill, hexec⟩
  · exact absurd hun h
  · rw [hexec, stoppedMode, if_pos hmoving, tornDown, motionStopped_eq]; rfl
  · rw [hexec, stoppedMode, if_neg (by simp [hstill]), tornDown, motionStopped_eq]; rfl

theorem execStpDisable_bound (a : Bool) {s : State} (h : s.stp.mode ≠ .uninit) :
    execStpDisable a s = .next (tornDown .idle false s) := if_neg h

/-- The command reports no error, and from the state that it leaves it changes nothing. -/
def SettlesAtOnce (command : Bool → Instr) (s : State) : Prop :=
  ∀ a, ∃ u, exec (command a) s = .next u ∧ u.err = s.err ∧ u.errCode = s.errCode ∧ ∀ b, exec (command b) u = .next u

theorem SettlesAtOnce.again {command : Bool → Instr} {s t : State} {a : Bool} (h : SettlesAtOnce command s)
    (ht : exec (command a) s = .next t) (b : Bool) : exec (command b) t = .next t := by
  obtain ⟨u, hu, _, _, hagain⟩ := h a
  obtain rfl : u = t := Host.Outcome.next.inj (hu.symm.trans ht)
  exact hagain b

theorem SettlesAtOnce.keeps_error {command : Bool → Instr} {s : State} (h : SettlesAtOnce command s) (a : Bool) :
    ∃ u, exec (command a) s = .next u ∧ u.err = s.err ∧ u.errCode = s.errCode := by
  obtain ⟨u, hu, herr, hcode, _⟩ := h a
  exact ⟨u, hu, herr, hcode⟩

/-- A command without effect in UNINIT settles there: its completion is the same the second time. -/
theorem settlesAtOnce_of_uninit {command : Bool → Instr} {s : State} (h : s.stp.mode = .uninit)
    (hun : ∀ a u, u.stp.mode = .uninit → exec (command a) u = .next (complete u)) : SettlesAtOnce command s :=
  fun a => ⟨complete s, hun a s h, rfl, rfl, fun b => hun b (complete s) h⟩

theorem stpStop_settlesAtOnce (s : State) : SettlesAtOnce Instr.stpStop s := by
  by_cases h : s.stp.mode = .uninit
  · exact settlesAtOnce_of_uninit h fun _ _ hun => if_pos hun
  · refine fun a => ⟨_, execStpStop_bound a h, tornDown_err _ _ s, tornDown_errCode _ _ s, fun b => ?_⟩
    have hbound := execStpStop_bound b (s := tornDown (stoppedMode s.stp.mode) s.stp.pinEn s)
      (by rw [tornDown_stp]; exact stoppedMode_ne_uninit h)
    rw [tornDown_tornDown, tornDown_stp, stoppedMode_idem] at hbound
    exact hbound

theorem stpDisable_settlesAtOnce (s : State) : SettlesAtOnce Instr.stpDisable s := by
  by_cases h : s.stp.mode = .uninit
  · exact settlesAtOnce_of_uninit h fun _ _ hun => if_pos hun
  · refine fun a => ⟨_, execStpDisable_bound a h, tornDown_err _ _ s, tornDown_errCode _ _ s, fun b => ?_⟩
    have hbound := execStpDisable_bound b (s := tornDown .idle false s) (by simp [tornDown_stp])
    rw [tornDown_tornDown] at hbound
    exact hbound

/-- STP_RELEASE leaves UNINIT, where a second one has no effect. -/
theorem stpRelease_settlesAtOnce (s : State) : SettlesAtOnce Instr.stpRelease s := by
  by_cases h : s.stp.mode = .uninit
  · exact settlesAtOnce_of_uninit h fun _ _ hun => if_pos hun
  · obtain ⟨_, hrelease⟩ := stpReleaseUnbindsAndFloatsThePins
    refine fun a => ⟨_, (hrelease a s).2 h, rfl, rfl, fun b => ?_⟩
    exact (hrelease b _).1 rfl

/-- Settles O43: each of the three commands settles at once from every state. -/
theorem teardownIsIdempotent : Obligations.TeardownIsIdempotent := fun a b s _ =>
  ⟨fun h => (stpStop_settlesAtOnce s).again h b, fun h => (stpDisable_settlesAtOnce s).again h b,
    fun h => (stpRelease_settlesAtOnce s).again h b, (stpStop_settlesAtOnce s).keeps_error a,
    (stpDisable_settlesAtOnce s).keeps_error a, (stpRelease_settlesAtOnce s).keeps_error a⟩

end Sys2Proof.Machine
end

section
/-! The decoder and the encoder are inverse to each other (spec/30_encoding.md R91, R92, R95): both are determined by
the three fields of the command word. -/

namespace Sys2Proof.Machine

open Sys2Proof.Claims

/-- The table of R92 read from the opcode and from the command. -/
theorem commandOf_eq_some_iff {opc : BitVec 8} {apply : Bool} {i : Instr} :
    commandOf opc apply = some i ↔ opcodeApply i = (opc, apply) := by
  constructor
  · intro h
    unfold commandOf at h
    split at h
    case h_22 => exact absurd h (by simp)
    all_goals
      rename_i hopc
      cases h
      exact Prod.mk_inj.2 ⟨BitVec.eq_of_toNat_eq hopc.symm, rfl⟩
  · intro h
    cases i <;> cases h <;> rfl

theorem decode_eq_ok_iff {w : Word} {i : Instr} :
    decode w = .ok i ↔ reservedOf w = 0 ∧ commandOf (opcodeOf w) (applyOf w) = some i := by
  unfold decode
  by_cases hrsv : reservedOf w = 0
  · rw [if_neg (not_not.2 hrsv)]
    cases commandOf (opcodeOf w) (applyOf w) <;> simp [hrsv]
  · rw [if_pos hrsv]
    exact ⟨fun h => (nomatch h), fun ⟨h, _⟩ => absurd h hrsv⟩

/-- The fields of a command word in plain arithmetic (R91). -/
theorem encode_toNat (i : Instr) : (encode i).toNat = 256 * (opcodeApply i).2.toNat + (opcodeApply i).1.toNat := by
  have hopc := (opcodeApply i).1.isLt
  simp only [encode, BitVec.toNat_append, BitVec.toNat_ofNat, BitVec.toNat_ofBool]
  rw [← Nat.shiftLeft_add_eq_or_of_lt hopc]
  simp [Nat.shiftLeft_eq, Nat.mul_comm]

theorem opcodeOf_toNat (w : Word) : (opcodeOf w).toNat = w.toNat % 256 := by
  rw [opcodeOf_eq, BitVec.toNat_ofNat, Nat.mod_mod]

theorem eq_applyOf_iff {apply : Bool} {w : Word} : apply = applyOf w ↔ apply.toNat = w.toNat / 256 % 2 := by
  rw [applyOf_eq]
  cases apply <;> simp <;> omega

/-- A word is the encoding of a command exactly when its three fields are those of the command (R91). -/
theorem encode_eq_iff {w : Word} {i : Instr} :
    encode i = w ↔ reservedOf w = 0 ∧ opcodeApply i = (opcodeOf w, applyOf w) := by
  have hopc := (opcodeApply i).1.isLt
  have happly := Bool.toNat_lt (opcodeApply i).2
  rw [reservedOf_eq_zero_iff, Prod.ext_iff, eq_applyOf_iff, ← BitVec.toNat_inj, ← BitVec.toNat_inj, encode_toNat,
    opcodeOf_toNat]
  omega

/-- Settles O1: both sides say that the three fields of the word are those of the command. -/
theorem decodeIsTheInverseOfEncode : Obligations.DecodeIsTheInverseOfEncode := fun w i => by
  rw [decode_eq_ok_iff, commandOf_eq_some_iff, encode_eq_iff]

/-- Settles O2: five words are encodings; of the other two one fails each check of R95. -/
theorem knownWordsDecode : Obligations.KnownWordsDecode :=
  ⟨(decodeIsTheInverseOfEncode _ _).2 rfl, (decodeIsTheInverseOfEncode _ _).2 rfl,
    (decodeIsTheInverseOfEncode _ _).2 rfl, (decodeIsTheInverseOfEncode _ _).2 rfl,
    (decodeIsTheInverseOfEncode _ _).2 rfl, rfl, decode_of_reserved (by decide)⟩

end Sys2Proof.Machine
end

section
/-! The step of the engine (spec/60_exceptions.md R212 to R214, R218): it completes the command in `eng_cmd`, or does
nothing while no command runs. -/

namespace Sys2Proof.Machine

open Sys2Proof.Claims

theorem opcode_mem_opcodeTable (i : Instr) : (opcodeApply i).1.toNat ∈ opcodeTable := by
  cases i <;> simp [opcodeApply, opcodeTable]

/-- A word that decodes has an opcode of the table (spec/30_encoding.md R92, R96). -/
theorem opcode_mem_of_decode_ok {w : Word} {i : Instr} (h : decode w = .ok i) : w.toNat % 256 ∈ opcodeTable := by
  obtain ⟨_, hrow⟩ := decode_eq_ok_iff.1 h
  have hopc := opcode_mem_opcodeTable i
  rwa [commandOf_eq_some_iff.1 hrow, opcodeOf_toNat] at hopc

/-- Settles O3: a word outside the table does not decode. -/
theorem unlistedOpcodeIsIllegal : Obligations.UnlistedOpcodeIsIllegal := by
  intro s hnext hopc
  rw [step_of_engineNext hnext]
  cases hd : decode s.engCmd with
  | ok i => exact absurd (opcode_mem_of_decode_ok hd) hopc
  | error e => exact completeCommand_error (s := entryTaken s) hd

/-- Settles O4: the engine's step is the completion of the decoded command. -/
theorem stepRunsTheDecodedCommand : Obligations.StepRunsTheDecodedCommand := fun s _ hnext hd =>
  (step_of_engineNext hnext).trans (completeCommand_ok (s := entryTaken s) hd)

/-- Settles O5: no command and no input stops the block. -/
theorem everyStepHasANextState : Obligations.EveryStepHasANextState := step_next

/-- Settles O6: a word that does not decode ends in ILLEGAL, and a command in one of its errors or without one. -/
theorem completionEndsEveryCommand : Obligations.CompletionEndsEveryCommand := by
  intro s hnext
  rw [step_of_engineNext hnext]
  cases hd : decode s.engCmd with
  | error e =>
    exact ⟨_, completeCommand_error (s := entryTaken s) hd, rfl, rfl, .inr ⟨.illegal, .inl rfl, rfl⟩⟩
  | ok i =>
    rw [completeCommand_ok (s := entryTaken s) hd]
    rcases exec_cases i (entryTaken s) with ⟨c, hc, h⟩ | ⟨u, h, herr, hcode, _⟩
    · exact ⟨_, h, rfl, rfl, .inr ⟨c, .inr hc, rfl⟩⟩
    · exact ⟨_, h, rfl, rfl, .inl ⟨herr, hcode⟩⟩

/-- Settles O7: of the ways a step can go, an idle engine leaves the one that only takes the entry. -/
theorem idleEngineHasNoStep : Obligations.IdleEngineHasNoStep := by
  intro s hidle hturn
  have hnot : ¬ EngineNext s := fun ⟨hbusy, _⟩ => Bool.false_ne_true (hidle.symm.trans hbusy)
  rcases step_cases s with ⟨hnext, _⟩ | ⟨hnext, _⟩ | h | ⟨i, hin, h⟩
  · exact absurd hnext hnot
  · exact absurd hnext hnot
  · exact h
  · rcases hturn with hnil | hengine
    · simp [hnil] at hin
    · cases hin.symm.trans hengine
      exact h

end Sys2Proof.Machine
end

section
/-! The registers that a command may change, by its unit, and what every other step leaves of them (spec/10_state.md
R33, R36, spec/60_exceptions.md R213, R214). -/

namespace Sys2Proof.Machine

open Sys2Proof.Claims

/-- From `s` to `t` a command of the arithmetic unit changed no more than RES0, RES1 and how it ended. -/
def ArithmeticFrame (s t : State) : Prop :=
  t = { s with
    engBusy := t.engBusy, done := t.done, err := t.err, errCode := t.errCode, res0 := t.res0, res1 := t.res1 }

/-- A command of the solvers changed no more than the registers of a solution, the ports and how it ended. -/
def SolverFrame (s t : State) : Prop :=
  t = { s with
    engBusy := t.engBusy, done := t.done, err := t.err, errCode := t.errCode
    solve := t.solve, duty := t.duty, ratio := t.ratio, resid := t.resid, fallback := t.fallback
    pwmPort := t.pwmPort, pwmPduty := t.pwmPduty, tm8Port := t.tm8Port, stpTfreq := t.stpTfreq }

/-- A command of the stepper changed no more than STP_STATE, the counters, RUN, MOVE_DONE and how it ended. -/
def StepperFrame (s t : State) : Prop :=
  t = { s with
    engBusy := t.engBusy, done := t.done, err := t.err, errCode := t.errCode, moveDone := t.moveDone
    pwmRun := t.pwmRun, tm8Run := t.tm8Run, stp := t.stp
    stpRevs := t.stpRevs, stpCur := t.stpCur, stpFinal := t.stpFinal, stpMspr := t.stpMspr }

/-- A command that solves for a frequency or a duty. -/
def IsSolver (i : Instr) : Prop := SolvesFrequency i ∨ ∃ a, i = .tm8Duty a

/-- A command of the stepper other than STP_SET_VEL, which solves. -/
def IsStepperCommand (i : Instr) : Prop :=
  EndsMotion i ∨ ∃ a, i = .stpEnable a ∨ i = .stpSetDir a ∨ i = .stpRun a ∨ i = .stpMove a ∨ i = .stpEvent a

/-- What a command changed, by its unit. -/
inductive ChangedByUnit (i : Instr) (s t : State) : Prop
  | completed (h : t = complete s)
  | arithmetic (hi : WritesArithmeticResults i) (h : ArithmeticFrame s t)
  | solver (hi : IsSolver i) (h : SolverFrame s t)
  | stepper (hi : IsStepperCommand i) (h : StepperFrame s t)

theorem stepperFrame_complete {s t : State} (h : StepperFrame s t) : StepperFrame s (complete t) := by
  rw [h]; rfl

theorem stepperFrame_startMove (revs fin : Nat) (s : State) : StepperFrame s (startMove revs fin (clearMotion s)) := by
  rcases startMove_cases revs fin (clearMotion s) with ⟨_, _, h⟩ | ⟨_, h⟩ <;> rw [h] <;> rfl

theorem stepperFrame_stepEvent (ch : Channel) (s : State) : StepperFrame s (stepEvent ch s) := by
  rw [stepEvent_frame]; rfl

theorem stepperFrame_motionStopped (s : State) (st : StpState) : StepperFrame s { motionStopped s with stp := st } := by
  rw [motionStopped, setRun_eq]; rfl

theorem arithmeticFrame_divide (width : Nat) (s : State) : ArithmeticFrame s (divide width s) := by
  rcases divide_cases width s with ⟨_, h⟩ | ⟨_, h⟩ <;> rw [h] <;> rfl

theorem solverFrame_applyVelocity (tf : Word) (s : State) :
    SolverFrame s (complete (applyVelocity tf { s with stpTfreq := tf })) := by
  rw [applyVelocity_frame]; rfl

theorem exec_changedByUnit {i : Instr} {s t : State} (h : exec i s = .next t) : ChangedByUnit i s t := by
  cases i with
  | nop a => cases h; exact .completed rfl
  | mul8 a | mul16 a => cases h; exact .arithmetic ⟨a, by simp⟩ rfl
  | div8 a | div16 a | div24 a | div32 a => cases h; exact .arithmetic ⟨a, by simp⟩ (arithmeticFrame_divide _ s)
  | pwmSolve a =>
    obtain ⟨sol, port, _, hc⟩ := execPwmSolve_cases a s
    cases h.symm.trans hc; exact .solver (.inl ⟨a, by simp⟩) rfl
  | pwmSolveDuty a =>
    obtain ⟨sol, duty, port, pduty, _, hc⟩ := execPwmSolveDuty_cases a s
    cases h.symm.trans hc; exact .solver (.inl ⟨a, by simp⟩) rfl
  | tm8Solve a =>
    obtain ⟨sol, port, _, hc⟩ := execTm8Solve_cases a s
    cases h.symm.trans hc; exact .solver (.inl ⟨a, by simp⟩) rfl
  | tm8Duty a =>
    obtain ⟨reg, port, hc⟩ := execTm8Duty_cases a s
    cases h.symm.trans hc; exact .solver (.inr ⟨a, rfl⟩) rfl
  | stpSetVel a =>
    refine .solver (.inl ⟨a, by simp⟩) ?_
    rcases execStpSetVel_cases a s with ⟨_, hc⟩ | ⟨_, _, hc⟩ | ⟨_, _, tf, hc⟩ <;> cases h.symm.trans hc
    · rfl
    · rfl
    · exact solverFrame_applyVelocity tf s
  | stpInit a =>
    cases h.symm.trans (execStpInit_eq a s)
    exact .stepper (.inl ⟨a, by simp⟩) rfl
  | stpEnable a =>
    refine .stepper (.inr ⟨a, by simp⟩) ?_
    rcases execStpEnable_cases a s with ⟨_, hc⟩ | ⟨_, hc⟩ | ⟨_, _, hc⟩ <;> cases h.symm.trans hc <;> rfl
  | stpSetDir a =>
    refine .stepper (.inr ⟨a, by simp⟩) ?_
    rcases execStpSetDir_cases a s with ⟨_, hc⟩ | ⟨_, hc⟩ <;> cases h.symm.trans hc <;> rfl
  | stpRun a =>
    refine .stepper (.inr ⟨a, by simp⟩) ?_
    rcases execStpRun_cases a s with ⟨_, hc⟩ | ⟨_, hc⟩ <;> cases h.symm.trans hc
    · rfl
    · rw [setRun_eq]; rfl
  | stpMove a =>
    refine .stepper (.inr ⟨a, by simp⟩) ?_
    rcases execStpMove_cases a s with ⟨_, hc⟩ | ⟨_, _, hc⟩ | ⟨_, _, _, hc⟩ | ⟨_, _, _, revs, fin, hc⟩ <;>
      cases h.symm.trans hc
    · rfl
    · rfl
    · rfl
    · exact stepperFrame_complete (stepperFrame_startMove revs fin s)
  | stpStop a =>
    refine .stepper (.inl ⟨a, by simp⟩) ?_
    rcases execStpStop_cases a s with ⟨_, hc⟩ | ⟨_, hc⟩ | ⟨_, _, hc⟩ <;> cases h.symm.trans hc
    · rfl
    · exact stepperFrame_complete (stepperFrame_motionStopped s _)
    · exact stepperFrame_complete (stepperFrame_motionStopped s _)
  | stpDisable a =>
    refine .stepper (.inl ⟨a, by simp⟩) ?_
    rcases execStpDisable_cases a s with ⟨_, hc⟩ | ⟨_, hc⟩ <;> cases h.symm.trans hc
    · rfl
    · exact stepperFrame_complete (stepperFrame_motionStopped s _)
  | stpRelease a =>
    refine .stepper (.inl ⟨a, by simp⟩) ?_
    rcases execStpRelease_cases a s with ⟨_, hc⟩ | ⟨_, hc⟩ <;> cases h.symm.trans hc
    · rfl
    · exact stepperFrame_complete (stepperFrame_motionStopped s _)
  | stpEvent a =>
    cases h
    exact .stepper (.inr ⟨a, by simp⟩) (stepperFrame_complete (stepperFrame_stepEvent _ s))

/-! ### What inputs leave as it is, and RES0 and RES1 -/

/-- RES0, RES1, RESID, FALLBACK and the level of `rst`: no host access and no event writes them. -/
def shelteredFields (s : State) : Word × Word × Word × Bool × Bool := (s.res0, s.res1, s.resid, s.fallback, s.rst)

theorem inputStep_keeps_shelteredFields {i : Input} (s : State) (h1 : i ≠ .rstAssert) (h2 : i ≠ .rstRelease) :
    shelteredFields (inputStep i s) = shelteredFields s := by
  rcases inputStep_cases i s with ⟨hreset, _⟩ | h | h | ⟨off, n, h⟩ | ⟨off, n, v, h⟩ | ⟨ch, h⟩
  · exact absurd hreset (by simp [h1, h2])
  · rw [h]
  · rw [h]; rfl
  · rcases hostRead_cases off n s with hc | hc | ⟨o, hc⟩ <;> rw [h, hc] <;> rfl
  · rcases hostWrite_cases off n v s with hc | hc | ⟨r, j, hc⟩
    · rw [h, hc]
    · rw [h, hc]; rfl
    · rw [h, hc, writeReg_frame]; rfl
  · rw [h, stepEvent_frame]; rfl

theorem exec_keeps_res {i : Instr} {s t : State} (h : exec i s = .next t) (hi : ¬ WritesArithmeticResults i) :
    t.res0 = s.res0 ∧ t.res1 = s.res1 := by
  cases exec_changedByUnit h with
  | completed h => rw [h]; exact ⟨rfl, rfl⟩
  | arithmetic hw _ => exact absurd hw hi
  | solver _ h => rw [h]; exact ⟨rfl, rfl⟩
  | stepper _ h => rw [h]; exact ⟨rfl, rfl⟩

/-- Settles O17: by the unit of the command that completes, and by the agent whose step it is. -/
theorem onlyArithmeticCommandsWriteResults : Obligations.OnlyArithmeticCommandsWriteResults := by
  intro s t hstep hreset harith
  rcases step_cases s with ⟨hnext, i, hd, h⟩ | ⟨_, h⟩ | h | ⟨i, hin, h⟩ <;> rw [h] at hstep
  · exact exec_keeps_res (s := entryTaken s) hstep fun hi => harith ⟨hnext, i, hd, hi⟩
  · cases hstep; exact ⟨rfl, rfl⟩
  · cases hstep; exact ⟨rfl, rfl⟩
  · cases hstep
    obtain ⟨h0, hrest⟩ := Prod.mk.inj (inputStep_keeps_shelteredFields (entryTaken s)
      (fun e => hreset (.inl (e ▸ hin))) (fun e => hreset (.inr (e ▸ hin))))
    exact ⟨h0, congrArg Prod.fst hrest⟩

end Sys2Proof.Machine
end

section
/-! A move in progress (spec/43_stepper.md R181, R196 to R198): what each pulse leaves of it, how many pulses it takes,
and which steps leave it as it is. -/

namespace Sys2Proof.Machine

open Sys2Proof.Claims

/-! ### A move under way -/

/-- A move that is not over: its target is a step of the revolution, and it has not been reached (R174, R181, R196). -/
structure MoveUnderWay (s : State) : Prop where
  mode : s.stp.mode = .movingDist
  armed : s.stp.armed = true
  distMode : s.stp.distMode = true
  cur_lt : s.stpCur.toNat < s.stpMspr.toNat
  final_lt : s.stpFinal.toNat < s.stpMspr.toNat
  unfinished : s.stpRevs ≠ 0 ∨ s.stpCur.toNat < s.stpFinal.toNat
  period : s.stp.src = .pwm → s.stp.periodState = false

/-- The move of `s` goes on in `t`. -/
structure MoveGoesOn (s t : State) : Prop where
  underWay : MoveUnderWay t
  moveDone : t.moveDone = s.moveDone
  src : t.stp.src = s.stp.src
  revs_le : t.stpRevs.toNat ≤ s.stpRevs.toNat

theorem MoveGoesOn.refl {s : State} (h : MoveUnderWay s) : MoveGoesOn s s := ⟨h, rfl, rfl, le_rfl⟩

theorem MoveGoesOn.trans {s t u : State} (h : MoveGoesOn s t) (h' : MoveGoesOn t u) : MoveGoesOn s u :=
  ⟨h'.underWay, h'.moveDone.trans h.moveDone, h'.src.trans h.src, h'.revs_le.trans h.revs_le⟩

/-- The target is ahead: a counted event is still needed. -/
theorem MoveUnderWay.countedEventsLeft_pos {s : State} (h : MoveUnderWay s) : 0 < countedEventsLeft s := by
  have hcur := h.cur_lt
  rcases h.unfinished with hrevs | hcount
  · have hrev : s.stpMspr.toNat ≤ s.stpRevs.toNat * s.stpMspr.toNat := Nat.le_mul_of_pos_left _ (by bv_omega)
    rw [countedEventsLeft]
    omega
  · rw [countedEventsLeft]
    omega

theorem MoveUnderWay.setPeriodState {s : State} (h : MoveUnderWay s) (b : Bool) (hsrc : s.stp.src = .tm8) :
    MoveUnderWay { s with stp := { s.stp with periodState := b } } :=
  ⟨h.mode, h.armed, h.distMode, h.cur_lt, h.final_lt, h.unfinished, fun hpwm => by simp [hsrc] at hpwm⟩

/-- At the end of a revolution the counted events left are those of the revolutions left and the last part. -/
theorem countedEventsLeft_wrap {s : State} (hrevs : s.stpRevs ≠ 0) (hwrap : s.stpCur + 1 = s.stpMspr)
    (hcur : s.stpCur.toNat < s.stpMspr.toNat) :
    countedEventsLeft s = (s.stpRevs - 1).toNat * s.stpMspr.toNat + s.stpFinal.toNat + 1 := by
  have hrev : s.stpRevs.toNat = (s.stpRevs - 1).toNat + 1 := by bv_omega
  have hlast : s.stpCur.toNat + 1 = s.stpMspr.toNat := by bv_omega
  rw [countedEventsLeft, hrev, Nat.succ_mul]
  omega

/-- A counted event ends the move if it is the last one, and otherwise leaves one fewer to come. -/
theorem countStep_of_underWay {s : State} (h : MoveUnderWay s) :
    (countedEventsLeft s = 1 ∧ ∃ u, countStep s = endOfMove u) ∨
    (MoveGoesOn s (countStep s) ∧ (countStep s).stp = s.stp ∧
      countedEventsLeft (countStep s) + 1 = countedEventsLeft s) := by
  obtain ⟨hm, harmed, hdist, hcur, hfinal, hgo, hperiod⟩ := h
  rcases countStep_cases s with ⟨hwrap, hrevs, hend, hc⟩ | ⟨hwrap, hmore, hc⟩ | ⟨hne, hrevs, hend, hc⟩ |
    ⟨hne, hmore, hc⟩ <;> rw [hc]
  · have hleft := countedEventsLeft_wrap (by bv_omega) hwrap hcur
    rw [hrevs, hend] at hleft
    exact .inl ⟨by simpa using hleft, _, rfl⟩
  · have hrevs : s.stpRevs ≠ 0 := by bv_omega
    refine .inr ⟨⟨⟨hm, harmed, hdist, by bv_omega, hfinal, ?_, hperiod⟩, rfl, rfl, by bv_omega⟩, rfl,
      (countedEventsLeft_wrap hrevs hwrap hcur).symm⟩
    simp only
    bv_omega
  · refine .inl ⟨?_, _, rfl⟩
    have hstep : s.stpFinal.toNat = s.stpCur.toNat + 1 := by bv_omega
    rw [countedEventsLeft, hrevs, hstep]
    simp
  · have hstep : (s.stpCur + 1).toNat = s.stpCur.toNat + 1 := by bv_omega
    refine .inr ⟨⟨⟨hm, harmed, hdist, by bv_omega, hfinal, ?_, hperiod⟩, rfl, rfl, le_rfl⟩, rfl, ?_⟩
    · simp only
      bv_omega
    · simp only [countedEventsLeft, hstep]
      have hpos := MoveUnderWay.countedEventsLeft_pos ⟨hm, harmed, hdist, hcur, hfinal, hgo, hperiod⟩
      rw [countedEventsLeft] at hpos
      omega

theorem pulsesLeft_of_tm8 {s : State} (hsrc : s.stp.src = .tm8) :
    pulsesLeft s = 2 * countedEventsLeft s - if s.stp.periodState then 1 else 0 := by
  rw [pulsesLeft, hsrc]

/-- A pulse of the bound source ends the move if it is the last one, and otherwise leaves one fewer to come: for the
timer the first of a pair is not counted, and the second one is (R196). -/
theorem stepEvent_of_underWay {s : State} (h : MoveUnderWay s) :
    (pulsesLeft s = 1 ∧ ∃ u, stepEvent s.stp.src s = endOfMove u) ∨
    (MoveGoesOn s (stepEvent s.stp.src s) ∧ pulsesLeft (stepEvent s.stp.src s) + 1 = pulsesLeft s) := by
  have hpos := h.countedEventsLeft_pos
  rcases stepEvent_cases s.stp.src s with ⟨hign, _⟩ | ⟨_, _, _, ⟨hsrc, he⟩ | ⟨hsrc, hp, he⟩ | ⟨hsrc, hp, he⟩⟩
  · simp [h.mode, h.armed] at hign
  · rw [he]
    rcases countStep_of_underWay h with ⟨hlast, hend⟩ | ⟨hgo, hstp, hleft⟩
    · exact .inl ⟨by simpa [pulsesLeft, hsrc] using hlast, hend⟩
    · exact .inr ⟨hgo, by simpa [pulsesLeft, hstp, hsrc] using hleft⟩
  · rw [he]
    refine .inr ⟨⟨h.setPeriodState true hsrc, rfl, rfl, le_rfl⟩, ?_⟩
    have hleft : countedEventsLeft { s with stp := { s.stp with periodState := true } } = countedEventsLeft s := rfl
    rw [pulsesLeft_of_tm8 hsrc, pulsesLeft_of_tm8 (by exact hsrc), hleft, hp, if_pos rfl, if_neg Bool.false_ne_true]
    omega
  · rw [he]
    rcases countStep_of_underWay (h.setPeriodState false hsrc) with ⟨hlast, hend⟩ | ⟨hgo, hstp, hleft⟩
    · refine .inl ⟨?_, hend⟩
      have hlast : countedEventsLeft s = 1 := hlast
      simp [pulsesLeft, hsrc, hp, hlast]
    · refine .inr ⟨⟨hgo.underWay, hgo.moveDone, hgo.src, hgo.revs_le⟩, ?_⟩
      have hleft : countedEventsLeft _ + 1 = countedEventsLeft s := hleft
      rw [pulsesLeft_of_tm8 (hgo.src.trans hsrc), pulsesLeft_of_tm8 hsrc, hstp, hp, if_pos rfl,
        if_neg Bool.false_ne_true]
      omega

/-! ### The pulses of a move, R198 -/

/-- The step of a pulse that comes next, with `rst` released. -/
theorem step_pulse_cons {s : State} {ch : Channel} {rest : List Input} (hrst : s.rst = false)
    (hin : s.inputs = pulseOf ch :: rest) : step s = .next (stepEvent ch { s with inputs := rest }) := by
  have hpulse := step_pulse (s := s) (ch := ch) (by rw [hin]; rfl)
  rwa [hrst, if_neg Bool.false_ne_true, entryTaken, hin] at hpulse

theorem stepEvent_inputs_rst (ch : Channel) (s : State) :
    (stepEvent ch s).inputs = s.inputs ∧ (stepEvent ch s).rst = s.rst := by
  rw [stepEvent_frame]
  exact ⟨rfl, rfl⟩

/-- `k` pulses of the bound source, by induction on `k`: fewer than the move still needs leave it under way with so many
fewer to come, and as many as it needs end it. -/
theorem runSteps_pulses (k : Nat) : ∀ (s : State) (rest : List Input), MoveUnderWay s → s.rst = false →
    s.inputs = List.replicate k (pulseOf s.stp.src) ++ rest →
    (k < pulsesLeft s → ∃ u, runSteps k s = .next u ∧ MoveGoesOn s u ∧ pulsesLeft u = pulsesLeft s - k) ∧
    (k = pulsesLeft s → ∃ u, runSteps k s = .next (endOfMove u)) := by
  induction k with
  | zero =>
    intro s rest h hrst hin
    refine ⟨fun _ => ⟨s, rfl, .refl h, rfl⟩, fun hzero => ?_⟩
    rcases stepEvent_of_underWay h with ⟨hone, _⟩ | ⟨_, hleft⟩ <;> omega
  | succ k ih =>
    intro s rest h hrst hin
    rw [List.replicate_succ, List.cons_append] at hin
    have hrun := runSteps_succ k (step_pulse_cons hrst hin)
    rw [hrun]
    have hnow : MoveUnderWay { s with inputs := List.replicate k (pulseOf s.stp.src) ++ rest } :=
      ⟨h.mode, h.armed, h.distMode, h.cur_lt, h.final_lt, h.unfinished, h.period⟩
    have hleft : pulsesLeft { s with inputs := List.replicate k (pulseOf s.stp.src) ++ rest } = pulsesLeft s := rfl
    obtain ⟨hin', hrst'⟩ := stepEvent_inputs_rst s.stp.src
      { s with inputs := List.replicate k (pulseOf s.stp.src) ++ rest }
    rcases stepEvent_of_underWay hnow with ⟨hone, u, hend⟩ | ⟨hgo, hless⟩
    · rw [hleft] at hone
      refine ⟨fun hk => by omega, fun hk => ?_⟩
      obtain rfl : k = 0 := by omega
      exact ⟨u, congrArg _ hend⟩
    · obtain ⟨hmore, hlast⟩ := ih _ rest hgo.underWay (hrst'.trans hrst) (by rw [hin', hgo.src])
      refine ⟨fun hk => ?_, fun hk => hlast (by omega)⟩
      obtain ⟨u, hu, hgo', hpulses⟩ := hmore (by omega)
      have hfrom : MoveGoesOn s { s with inputs := List.replicate k (pulseOf s.stp.src) ++ rest } :=
        ⟨hnow, rfl, rfl, le_rfl⟩
      exact ⟨u, hu, hfrom.trans (hgo.trans hgo'), by omega⟩

/-- The move that STP_MOVE starts, past its checks and with a distance: it is under way, from step 0 (R181). -/
theorem execStpMove_underWay (apply : Bool) {s : State} {revs fin : Nat} (hstart : Startable s)
    (hupr : s.snap.stpUpr ≠ 0) (hspr : s.snap.stpSpr ≠ 0)
    (hrevs : revs = s.snap.opa.toNat % 65536 / s.snap.stpUpr.toNat)
    (hfin : fin = s.snap.opa.toNat % 65536 % s.snap.stpUpr.toNat * s.snap.stpSpr.toNat / s.snap.stpUpr.toNat)
    (hfar : revs ≠ 0 ∨ fin ≠ 0) :
    ∃ t, exec (.stpMove apply) s = .next t ∧ MoveUnderWay t ∧ t.moveDone = s.moveDone ∧ t.rst = s.rst ∧
      t.inputs = s.inputs ∧ t.stp.src = s.stp.src ∧ t.stp.periodState = false ∧ t.stpRevs.toNat = revs ∧
      t.stpFinal.toNat = fin ∧ t.stpCur = 0 ∧ t.stpMspr = s.snap.stpSpr := by
  obtain ⟨_, hmove⟩ := stpMoveStartsAPlannedMove
  obtain ⟨_, _, _, _, hexec⟩ := hmove apply s revs fin hrevs hfin
  have hupr0 : s.snap.stpUpr.toNat ≠ 0 := fun h => hupr (BitVec.eq_of_toNat_eq h)
  have hspr0 : s.snap.stpSpr.toNat ≠ 0 := fun h => hspr (BitVec.eq_of_toNat_eq h)
  obtain ⟨hplan, hlt⟩ := planMoveSplitsTheDistance (s.snap.opa.toNat % 65536) s.snap.stpSpr.toNat s.snap.stpUpr.toNat
    (Nat.mod_lt _ (by decide)) s.snap.stpSpr.isLt s.snap.stpUpr.isLt hupr0 hspr0
  rw [hplan, ← hfin] at hlt
  have hrevsLt : revs < 65536 := by
    rw [hrevs]
    exact (Nat.div_le_self _ _).trans_lt (Nat.mod_lt _ (by decide))
  have hsprLt := s.snap.stpSpr.isLt
  have hrevsNat : (BitVec.ofNat 16 revs).toNat = revs := Nat.mod_eq_of_lt hrevsLt
  have hfinNat : (BitVec.ofNat 16 fin).toNat = fin := Nat.mod_eq_of_lt (hlt.trans hsprLt)
  refine ⟨_, hexec hstart hupr hspr hfar, ⟨rfl, rfl, rfl, Nat.pos_of_ne_zero hspr0, ?_, ?_, fun _ => rfl⟩, rfl, rfl,
    rfl, rfl, rfl, hrevsNat, hfinNat, rfl, rfl⟩
  · exact hfinNat.trans_lt hlt
  · rcases hfar with hne | hne
    · exact .inl fun h0 => hne (hrevsNat.symm.trans (congrArg BitVec.toNat h0))
    · exact .inr ((Nat.pos_of_ne_zero hne).trans_eq hfinNat.symm)

/-- Settles O44: the started move is under way with all its pulses to come, and each pulse takes one off. -/
theorem moveEndsAfterExactlyItsPulses : Obligations.MoveEndsAfterExactlyItsPulses := by
  intro apply s k revs fin pulses rest hrst hstart hupr hspr hrevs hfin hfar hpulses hin
  obtain ⟨t, hexec, hway, hdone, hrst', hin', hsrc, hperiod, hrevs', hfin', hcur, hmspr⟩ :=
    execStpMove_underWay apply hstart hupr hspr hrevs hfin hfar
  have hleft : pulsesLeft t = pulses := by
    rw [hpulses, pulsesLeft, countedEventsLeft, hsrc, hperiod, hrevs', hfin', hcur, hmspr]
    cases s.stp.src <;> simp
  obtain ⟨hmore, hlast⟩ := runSteps_pulses k t rest hway (hrst'.trans hrst) (by rw [hin', hsrc, hin])
  rw [hleft] at hmore hlast
  refine ⟨t, hexec, fun hk => ?_, fun hk => ?_⟩
  · obtain ⟨u, hu, hgo, hpulses⟩ := hmore hk
    exact ⟨u, hu, hgo.underWay.mode, hgo.moveDone.trans hdone, hgo.revs_le.trans_eq hrevs', hpulses⟩
  · obtain ⟨u, hu⟩ := hlast hk
    exact ⟨_, hu, by rw [endOfMove_eq], by rw [endOfMove_eq], by rw [endOfMove_eq]⟩

/-! ### Steps that leave a move as it is -/

/-- In MOVING_DIST only the commands that end a motion, STP_EVENT and STP_SET_DIR touch the stepper registers. -/
theorem exec_keeps_stepperFields {i : Instr} {s t : State} (h : exec i s = .next t) (hm : s.stp.mode = .movingDist)
    (hi : ¬ (EndsMotion i ∨ ∃ a, i = .stpEvent a ∨ i = .stpSetDir a)) : stepperFields t = stepperFields s := by
  have hcannot : canStart s.stp.mode ≠ true := by simp [hm]
  cases exec_changedByUnit h with
  | completed h => rw [h]; rfl
  | arithmetic _ h => rw [h]; rfl
  | solver _ h => rw [h]; rfl
  | stepper hcmd _ =>
    rcases hcmd with hends | ⟨a, rfl | rfl | rfl | rfl | rfl⟩
    · exact absurd (.inl hends) hi
    · rcases execStpEnable_cases a s with ⟨_, hc⟩ | ⟨hidle, _⟩ | ⟨_, _, hc⟩
      · cases h.symm.trans hc; rfl
      · simp [hm] at hidle
      · cases h.symm.trans hc; rfl
    · exact absurd (.inr ⟨a, .inr rfl⟩) hi
    · rcases execStpRun_cases a s with ⟨_, hc⟩ | ⟨hcan, _⟩
      · cases h.symm.trans hc; rfl
      · exact absurd hcan hcannot
    · rcases execStpMove_cases a s with ⟨_, hc⟩ | ⟨hcan, _⟩ | ⟨hcan, _⟩ | ⟨hcan, _⟩
      · cases h.symm.trans hc; rfl
      all_goals exact absurd hcan hcannot
    · exact absurd (.inr ⟨a, .inl rfl⟩) hi

/-- So does no input but a reset and a pulse of the bound source. -/
theorem inputStep_keeps_stepperFields {i : Input} {s : State} (h1 : i ≠ .rstAssert) (h2 : i ≠ .rstRelease)
    (hpulse : i ≠ pulseOf s.stp.src) : stepperFields (inputStep i s) = stepperFields s := by
  cases hrst : s.rst with
  | true =>
    rcases inputStep_in_reset hrst h1 h2 with h | h
    · rw [h]
    · rw [h]; rfl
  | false =>
    cases i with
    | hostRead off n => simp [inputStep, hrst, stepperFields_hostRead]
    | hostWrite off n v => simp [inputStep, hrst, stepperFields_hostWrite]
    | engine => rfl
    | rstAssert => exact absurd rfl h1
    | rstRelease => exact absurd rfl h2
    | evtPwm =>
      have hother : Channel.pwm ≠ s.stp.src := fun h => hpulse (h ▸ rfl)
      simp [inputStep, hrst, stepEvent_of_ignored (.inr (.inr hother))]
    | evtTm8 =>
      have hother : Channel.tm8 ≠ s.stp.src := fun h => hpulse (h ▸ rfl)
      simp [inputStep, hrst, stepEvent_of_ignored (.inr (.inr hother))]

/-- Settles O45: by the agent whose step it is. -/
theorem onlyEventsInitTeardownSetDirAndResetTouchAMove :
    Obligations.OnlyEventsInitTeardownSetDirAndResetTouchAMove := by
  intro s t hm hstep hreset hpulse hcmd
  suffices hkeep : stepperFields t = stepperFields s by simpa only [stepperFields, Prod.mk.injEq] using hkeep
  rcases step_cases s with ⟨hnext, i, hd, h⟩ | ⟨_, h⟩ | h | ⟨i, hin, h⟩ <;> rw [h] at hstep
  · exact exec_keeps_stepperFields (s := entryTaken s) hstep hm fun hi => hcmd ⟨hnext, i, hd, hi⟩
  · cases hstep; rfl
  · cases hstep; rfl
  · cases hstep
    exact inputStep_keeps_stepperFields (s := entryTaken s) (fun e => hreset (.inl (e ▸ hin)))
      (fun e => hreset (.inr (e ▸ hin))) (fun e => hpulse (by rw [hin, e]; rfl))

end Sys2Proof.Machine
end

section
/-! The two solvers in plain arithmetic (spec/41_pwm11.md, spec/42_tm8.md): the ratio and its boosts, the solution that
each search gives, the duty, and the commands that write them. -/

namespace Sys2Proof.Machine

open Sys2Proof.Claims

/-! ### The ratio and its boosts, R131 to R133, R151 and R152 -/

theorem shiftRight_toNat (r : Word) (k : Nat) : (r >>> k).toNat = r.toNat / 2 ^ k := by
  rw [BitVec.toNat_ushiftRight, Nat.shiftRight_eq_div_pow]

theorem defaultTarget_toNat (t clk : Word) : (defaultTarget t clk).toNat = target t.toNat clk.toNat := by
  have hsixteenth := shiftRight_toNat clk 4
  unfold defaultTarget target
  split_ifs with ht hclk htarget htarget <;> bv_omega

theorem corr_toNat (r : Word) (m : BitVec 2) : (corr r m).toNat = corrected r.toNat m.toNat := by
  have hhalf := shiftRight_toNat r 1
  have hm := m.isLt
  unfold corr corrected
  split
  · simp_all
  · simp_all
  · simp_all
  · rw [if_neg (by assumption), if_neg (by assumption), if_neg (by assumption)]
    bv_omega

/-- The ratio that the boosts divide (R132, R151, spec/10_state.md R29). -/
theorem clockRatio_toNat (t clk : Word) (cm : BitVec 2) :
    (clockRatio t clk cm).toNat = rawRatio t.toNat clk.toNat cm.toNat := by
  rw [clockRatio, corr_toNat, BitVec.toNat_udiv, defaultTarget_toNat, rawRatio]

theorem boostCount_le (threshold r : Nat) : boostCount threshold r ≤ 3 := by
  unfold boostCount
  split_ifs <;> omega

/-- Settles O20: the three boosts in turn, each of which divides the ratio by 4. -/
theorem boostLoopStopsAtTheThreshold : Obligations.BoostLoopStopsAtTheThreshold := by
  intro threshold r
  have h1 : (r >>> 2).toNat = r.toNat / 4 := shiftRight_toNat r 2
  have h2 : (r >>> 2 >>> 2).toNat = r.toNat / 16 := by rw [shiftRight_toNat, h1]; omega
  have h3 : (r >>> 2 >>> 2 >>> 2).toNat = r.toNat / 64 := by rw [shiftRight_toNat, h2]; omega
  rw [boost, boostLoop_succ, boostLoop_succ, boostLoop_succ, boostLoop, boostCount, h1, h2]
  simp only [gt_iff_lt, ← not_le, ite_not]
  split_ifs
  · exact ⟨rfl, (Nat.div_one _).symm⟩
  · exact ⟨rfl, h1⟩
  · exact ⟨rfl, h2⟩
  · exact ⟨rfl, h3⟩

/-- The boosted ratio of a solver with this threshold, and its number of boosts. -/
theorem boost_clockRatio (threshold : Nat) (t clk : Word) (cm : BitVec 2) :
    (boost threshold (clockRatio t clk cm)).1.toNat = boostedRatio threshold t.toNat clk.toNat cm.toNat ∧
    (boost threshold (clockRatio t clk cm)).2 = boostCount threshold (rawRatio t.toNat clk.toNat cm.toNat) := by
  obtain ⟨hcount, hratio⟩ := boostLoopStopsAtTheThreshold threshold (clockRatio t clk cm)
  rw [clockRatio_toNat] at hcount hratio
  exact ⟨hratio, hcount⟩

theorem ofNat_boostCount_toNat (threshold r : Nat) :
    (BitVec.ofNat 2 (boostCount threshold r)).toNat = boostCount threshold r :=
  Nat.mod_eq_of_lt (Nat.lt_succ_of_le (boostCount_le threshold r))

/-! ### The solution of the 11-bit solver, R130 to R136 -/

/-- A found scalar is the best one, and its register fields hold it without loss. -/
theorem encodePwm_found {odd : Bool} {r b : Nat} {ratio : Word} {c : Candidate}
    (hc : scalarSearch odd r = some c) :
    BestScalar odd r c.scalar ∧ (encodePwm (ratio, b) (some c)).reg.scalar.toNat = c.scalar - 1 ∧
      (encodePwm (ratio, b) (some c)).reg.bound.toNat = r / c.scalar - 1 ∧
      (encodePwm (ratio, b) (some c)).resid.toNat = r % c.scalar := by
  obtain ⟨hbest, hquot, hrem⟩ := ((scalarSearchFindsTheFirstLeastRemainder odd r).1 c).1 hc
  obtain ⟨hpos, hle, ⟨_, _, hq⟩, _⟩ := id hbest
  have hmod := Nat.mod_lt r hpos
  refine ⟨hbest, ?_, ?_, ?_⟩
  · exact Nat.mod_eq_of_lt (a := c.scalar - 1) (by omega)
  · simp only [encodePwm, chosenQuotient, hquot]
    exact Nat.mod_eq_of_lt (by omega)
  · simp only [encodePwm, pwmResidual, hrem]
    exact Nat.mod_eq_of_lt (by omega)

/-- The 11-bit solver solves: its ratio and boosts, and the best scalar or the fallback. -/
theorem pwmSolve_isPwmSolution (t clk : Word) (cm : BitVec 2) (odd : Bool) :
    IsPwmSolution t.toNat clk.toNat cm.toNat odd (pwmSolve t clk cm odd).reg (pwmSolve t clk cm odd).resid
      (pwmSolve t clk cm odd).ratio (pwmSolve t clk cm odd).fallback := by
  obtain ⟨hratio, hcount⟩ := boost_clockRatio 65504 t clk cm
  have hboosted : pwmBoosted t clk cm = boost 65504 (clockRatio t clk cm) := rfl
  rw [pwmSolve, hboosted, hratio]
  generalize boost 65504 (clockRatio t clk cm) = boosted at hratio hcount ⊢
  obtain ⟨ratio, b⟩ := boosted
  obtain rfl : b = _ := hcount
  refine ⟨hratio, ofNat_boostCount_toNat _ _, ?_⟩
  cases hfound : scalarSearch odd (boostedRatio 65504 t.toNat clk.toNat cm.toNat) with
  | none => exact .inr ⟨((scalarSearchFindsTheFirstLeastRemainder odd _).2).1 hfound, rfl, rfl, rfl, rfl⟩
  | some c =>
    obtain ⟨hbest, hscalar, hbound, hresid⟩ := encodePwm_found (ratio := ratio) hfound
    exact .inl ⟨c.scalar, hbest, hscalar, hbound, hresid, rfl⟩

theorem requestedPwm_isPwmSolution (s : State) :
    IsPwmSolution s.snap.opa.toNat s.snap.clkPwm.toNat s.snap.ctrl.pwmCorr.toNat s.snap.ctrl.pwmOdd
      (requestedPwm s).reg (requestedPwm s).resid (requestedPwm s).ratio (requestedPwm s).fallback := by
  rw [requestedPwm, targetFreq]
  exact pwmSolve_isPwmSolution ..

/-- Settles O18: opcode 0x10 is PWM_SOLVE, and what it writes is the solver's solution. -/
theorem pwmSolveWritesTheSolution : Obligations.PwmSolveWritesTheSolution := by
  refine ⟨encodedAs_of_commandOf fun _ => rfl, fun apply s => ?_⟩
  have hsol := requestedPwm_isPwmSolution s
  rw [exec, execPwmSolve]
  generalize requestedPwm s = sol at hsol ⊢
  refine ⟨_, _, _, _, hsol, ?_⟩
  cases apply <;> rfl

/-! ### The duty of the 11-bit channel, R137 -/

/-- The product of percent and period fits the multiplier and the division. -/
theorem roundedDuty_eq (percent : Nat) (cr : BitVec 11) : roundedDuty percent cr = dutyRounded percent cr.toNat := by
  have hcr := cr.isLt
  have hpercent : min percent 100 ≤ 100 := Nat.min_le_right _ _
  have hprod : min percent 100 * (cr.toNat + 1) ≤ 100 * 2048 := Nat.mul_le_mul hpercent (by omega)
  rw [roundedDuty, mulN_eq (.inr rfl) (by omega) (by omega), roundPercent_eq (by omega), dutyRounded]

theorem pwmDuty_eq (percent : Nat) (cr : BitVec 11) (dpar : Bool) :
    pwmDuty percent cr dpar = BitVec.ofNat 11 (dutyOf percent cr.toNat dpar) := by
  rw [pwmDuty, roundedDuty_eq, dutyOf]

/-- Settles O22: the clamp keeps the duty within the 11 bits of the counter register. -/
theorem pwmDutyIsRoundedAndClamped : Obligations.PwmDutyIsRoundedAndClamped := by
  intro percent cr dpar
  have hle : dutyOf percent cr.toNat dpar ≤ cr.toNat := Nat.min_le_right _ _
  have hnat : (pwmDuty percent cr dpar).toNat = dutyOf percent cr.toNat dpar := by
    rw [pwmDuty_eq]
    exact Nat.mod_eq_of_lt (hle.trans_lt cr.isLt)
  exact ⟨hnat, hnat.trans_le hle⟩

/-- Settles O19: opcode 0x11 is PWM_SOLVE_DUTY, and what it writes is the solution and the duty for its period. -/
theorem pwmSolveDutyWritesTheSolutionAndDuty : Obligations.PwmSolveDutyWritesTheSolutionAndDuty := by
  refine ⟨encodedAs_of_commandOf fun _ => rfl, fun apply s => ?_⟩
  have hsol := requestedPwm_isPwmSolution s
  simp only [exec, execPwmSolveDuty, pwmDuty_eq]
  generalize requestedPwm s = sol at hsol ⊢
  refine ⟨_, _, _, _, hsol, ?_⟩
  cases apply <;> rfl

/-! ### What RESID says of a solution, and the configurations of R141 -/

/-- RESID is a remainder without the fallback and the mark with it (spec/10_state.md R36). -/
def ResidualFits (fallback : Bool) (resid : Word) : Prop :=
  (fallback = true → resid = 0xFFFFFFFF) ∧ (fallback = false → resid.toNat ≤ 31)

theorem pwmSolve_residualFits (t clk : Word) (cm : BitVec 2) (odd : Bool) :
    ResidualFits (pwmSolve t clk cm odd).fallback (pwmSolve t clk cm odd).resid := by
  obtain ⟨_, _, ⟨s, ⟨hpos, hle, _⟩, _, _, hresid, hfb⟩ | ⟨_, _, _, hresid, hfb⟩⟩ := pwmSolve_isPwmSolution t clk cm odd
  · have hmod := Nat.mod_lt (boostedRatio 65504 t.toNat clk.toNat cm.toNat) hpos
    exact ⟨fun h => by simp [hfb] at h, fun _ => by omega⟩
  · exact ⟨fun _ => hresid, fun h => by simp [hfb] at h⟩

/-- An odd quotient below 2048 leaves an even counter register. -/
theorem pwmSolve_odd_bound (t clk : Word) (cm : BitVec 2) :
    (pwmSolve t clk cm true).reg.bound.toNat ≤ 2046 ∧ (pwmSolve t clk cm true).reg.bound.toNat % 2 = 0 := by
  obtain ⟨_, _, ⟨s, ⟨_, _, ⟨hodd, _, hq⟩, _⟩, _, hbound, _⟩ | ⟨_, _, hbound, _⟩⟩ := pwmSolve_isPwmSolution t clk cm true
  · have hodd := hodd rfl
    omega
  · omega

/-- With DOUBLE, 1 Hz at 4 MHz takes all three boosts, and its ratio is too large for every scalar. -/
theorem pwmSolve_1Hz : pwmSolve 1 4000000 1 true =
    { reg := { psc := 3, scalar := 31, bound := 2046 }, resid := 0xFFFFFFFF, fallback := true, ratio := 125000 } := by
  have hboosted : pwmBoosted 1 4000000 1 = (125000, 3) := by decide
  have hnone : NoScalar true 125000 := by
    rintro s hpos hle ⟨_, _, hq⟩
    have hlarge : 125000 / 32 ≤ 125000 / s := Nat.div_le_div_left hle hpos
    omega
  have hsearch : scalarSearch true (125000 : Word).toNat = none :=
    ((scalarSearchFindsTheFirstLeastRemainder true 125000).2).2 hnone
  rw [pwmSolve, hboosted, hsearch]
  rfl

/-- Settles O23: the ranges by the solution, and the slowest configuration by its ratio. -/
theorem oddSolutionsAreValidConfigurations : Obligations.OddSolutionsAreValidConfigurations := by
  refine ⟨fun t clk cm => ?_, pwmSolve_1Hz⟩
  obtain ⟨hle, heven⟩ := pwmSolve_odd_bound t clk cm
  obtain ⟨hmark, hsmall⟩ := pwmSolve_residualFits t clk cm true
  exact ⟨hle, heven, hsmall, hmark⟩

/-! ### The solution of the 8-bit timer solver, R150 to R155 -/

/-- A found bound is the best one, and the register fields hold it and its quotient without loss. -/
theorem encodeTm8_found {b tol bd : Nat} {ratio : Word} (h : toleranceSearch ratio.toNat = some (tol, bd)) :
    BestBound ratio.toNat bd ∧ (encodeTm8 (ratio, b) (some (tol, bd))).bound.toNat = bd ∧
      (encodeTm8 (ratio, b) (some (tol, bd))).scalar.toNat = ratio.toNat / (bd + 1) - 1 ∧
      (encodeTm8 (ratio, b) (some (tol, bd))).resid.toNat = ratio.toNat % (bd + 1) := by
  obtain ⟨hbest, htol⟩ := ((toleranceSearchEqualsItsClosedForm ratio.toNat).1 tol bd).1 h
  obtain ⟨⟨_, hbd, _, hq⟩, hrem, _⟩ := id hbest
  refine ⟨hbest, Nat.mod_eq_of_lt (a := bd) (by omega),
    Nat.mod_eq_of_lt (a := ratio.toNat / (bd + 1) - 1) (by omega), ?_⟩
  rw [← htol] at hrem ⊢
  exact Nat.mod_eq_of_lt (by omega)

/-- The 8-bit timer solver solves: its ratio and boosts, and the best bound or the fallback. -/
theorem tm8Solve_isTm8Solution (t clk : Word) (cm : BitVec 2) :
    IsTm8Solution t.toNat clk.toNat cm.toNat (tm8Solve t clk cm).psc (tm8Solve t clk cm).scalar
      (tm8Solve t clk cm).bound (tm8Solve t clk cm).resid (tm8Solve t clk cm).ratio (tm8Solve t clk cm).fallback := by
  obtain ⟨hratio, hcount⟩ := boost_clockRatio 8192 t clk cm
  have hboosted : tm8Boosted t clk cm = boost 8192 (clockRatio t clk cm) := rfl
  rw [tm8Solve, hboosted]
  generalize boost 8192 (clockRatio t clk cm) = boosted at hratio hcount ⊢
  obtain ⟨ratio, b⟩ := boosted
  obtain rfl : b = _ := hcount
  refine ⟨hratio, ofNat_boostCount_toNat _ _, ?_⟩
  rw [← hratio]
  cases hfound : toleranceSearch ratio.toNat with
  | none => exact .inr ⟨((toleranceSearchEqualsItsClosedForm _).2).1 hfound, rfl, rfl, rfl, rfl⟩
  | some found =>
    obtain ⟨tol, bd⟩ := found
    obtain ⟨hbest, hbound, hscalar, hresid⟩ := encodeTm8_found hfound
    exact .inl ⟨bd, hbest, hbound, hscalar, hresid, rfl⟩

theorem tm8Solve_residualFits (t clk : Word) (cm : BitVec 2) :
    ResidualFits (tm8Solve t clk cm).fallback (tm8Solve t clk cm).resid := by
  obtain ⟨_, _, ⟨bd, ⟨_, hrem, _⟩, _, _, hresid, hfb⟩ | ⟨_, _, _, hresid, hfb⟩⟩ := tm8Solve_isTm8Solution t clk cm
  · exact ⟨fun h => by simp [hfb] at h, fun _ => hresid.trans_le hrem⟩
  · exact ⟨fun _ => hresid, fun h => by simp [hfb] at h⟩

/-- Settles O24: opcode 0x18 is TM8_SOLVE, and what it writes is the solver's solution. -/
theorem tm8SolveWritesTheSolution : Obligations.Tm8SolveWritesTheSolution := by
  refine ⟨encodedAs_of_commandOf fun _ => rfl, fun apply s => ⟨_, _, _, _, _, _, tm8Solve_isTm8Solution .., ?_⟩⟩
  cases apply <;> rfl

/-! ### The solve of STP_SET_VEL, R178 -/

/-- Past its checks STP_SET_VEL solves for the frequency of R173, which 32 bits hold. -/
theorem execStpSetVel_solve (apply : Bool) {s : State} {tf : Nat} (hm : s.stp.mode ≠ .uninit) (hupr : s.snap.stpUpr ≠ 0)
    (htf : tf = pulseFrequency (s.snap.opa.toNat % 65536) s.snap.stpSpr.toNat s.snap.stpUpr.toNat) :
    execStpSetVel apply s =
      .next (complete (applyVelocity (BitVec.ofNat 32 tf) { s with stpTfreq := BitVec.ofNat 32 tf })) ∧
    (BitVec.ofNat 32 tf).toNat = tf := by
  have hupr' : unitsPerRev s ≠ 0 := mt (unitsPerRev_eq_zero_iff s).1 hupr
  obtain ⟨_, hfreq, _, hlt⟩ := velocityConvertsToFrequency (unitsPerMin s) (stepsPerRev s) (unitsPerRev s)
    (opaField_lt 16 s) s.snap.stpSpr.isLt s.snap.stpUpr.isLt hupr'
  have heq : velToFreq (unitsPerMin s) (stepsPerRev s) (unitsPerRev s) = tf := hfreq.trans htf.symm
  rw [heq] at hlt
  refine ⟨?_, Nat.mod_eq_of_lt hlt⟩
  rw [execStpSetVel, if_neg hm, if_neg hupr', heq]

/-- Settles O32: the checks of STP_SET_VEL in order, and the solver of the bound source at the pulse frequency. -/
theorem stpSetVelSolvesForTheBoundSource : Obligations.StpSetVelSolvesForTheBoundSource := by
  refine ⟨encodedAs_of_commandOf fun _ => rfl, fun apply s tf htf => ⟨fun hm => if_pos hm, fun hm hupr => ?_,
    fun hm hupr hsrc => ?_, fun hm hupr hsrc => ?_⟩⟩
  · exact (if_neg hm).trans (if_pos ((unitsPerRev_eq_zero_iff s).2 hupr))
  · obtain ⟨hexec, hnat⟩ := execStpSetVel_solve apply hm hupr htf
    have hsol := pwmSolve_isPwmSolution (BitVec.ofNat 32 tf) s.snap.clkPwm s.snap.ctrl.pwmCorr s.snap.ctrl.pwmOdd
    rw [hnat] at hsol
    refine ⟨_, _, _, _, hsol, ?_⟩
    rw [exec, hexec, applyVelocity]
    simp only [hsrc, pwmDuty_eq]
    generalize pwmSolve (BitVec.ofNat 32 tf) s.snap.clkPwm s.snap.ctrl.pwmCorr s.snap.ctrl.pwmOdd = sol
    rfl
  · obtain ⟨hexec, hnat⟩ := execStpSetVel_solve apply hm hupr htf
    have hsol := tm8Solve_isTm8Solution (BitVec.ofNat 32 tf) s.snap.clkTm8 s.snap.ctrl.tm8Corr
    rw [hnat] at hsol
    refine ⟨_, _, _, _, _, _, hsol, ?_⟩
    rw [exec, hexec, applyVelocity, hsrc]
    rfl

end Sys2Proof.Machine
end

section
/-! Every step keeps the invariant (spec/10_state.md R45 and log entry 17). The six parts of it are taken one by one: by
the command that completes, and by the input. The stepper's own part stands above. -/

namespace Sys2Proof.Machine

open Sys2Proof.Claims

/-! ### The move and the binding -/

/-- What the model adds to R45 for the stepper registers. -/
def MoveBindingInvariant (s : State) : Prop := MoveInvariant s ∧ UnboundInvariant s

theorem MoveBindingInvariant.of_stepperFields_eq {s t : State} (h : MoveBindingInvariant s)
    (ht : stepperFields t = stepperFields s) : MoveBindingInvariant t := by
  simp only [stepperFields, Prod.mk.injEq] at ht
  obtain ⟨hstp, hrevs, hcur, hfinal, hmspr⟩ := ht
  simpa only [MoveBindingInvariant, MoveInvariant, UnboundInvariant, hstp, hrevs, hcur, hfinal, hmspr] using h

/-- Both invariants say that a move in MOVING_DIST is under way. -/
theorem moveUnderWay_of_invariant {s : State} (h : StepperInvariant s) (h' : MoveBindingInvariant s)
    (hm : s.stp.mode = .movingDist) : MoveUnderWay s := by
  obtain ⟨_, harmed, _, _, hcount, _⟩ := h
  obtain ⟨⟨hdist, htarget, hperiod⟩, _⟩ := h'
  obtain ⟨hfinal, hgo⟩ := htarget hm
  exact ⟨hm, harmed.2 hm, hdist.2 hm, (hcount hm).2, hfinal, hgo, hperiod⟩

theorem MoveUnderWay.moveBindingInvariant {s : State} (h : MoveUnderWay s) : MoveBindingInvariant s :=
  ⟨⟨by simp [h.distMode, h.mode], fun _ => ⟨h.final_lt, h.unfinished⟩, h.period⟩,
    fun hun => by simp [h.mode] at hun⟩

/-- Outside MOVING_DIST it asks that DIST_MODE and PERIOD_STATE are 0, and in UNINIT that nothing is bound. -/
theorem moveBindingInvariant_of_not_movingDist {s : State} (hm : s.stp.mode ≠ .movingDist)
    (hdist : s.stp.distMode = false) (hperiod : s.stp.periodState = false) (hunbound : UnboundInvariant s) :
    MoveBindingInvariant s :=
  ⟨⟨by simp [hdist, hm], fun h => absurd h hm, fun _ => hperiod⟩, hunbound⟩

theorem endOfMove_moveBindingInvariant (s : State) : MoveBindingInvariant (endOfMove s) := by
  rw [endOfMove_eq]
  exact moveBindingInvariant_of_not_movingDist (by simp) rfl rfl fun hun => by simp at hun

theorem stepEvent_moveBindingInvariant {s : State} (ch : Channel) (h : StepperInvariant s)
    (h' : MoveBindingInvariant s) : MoveBindingInvariant (stepEvent ch s) := by
  rcases stepEvent_cases ch s with ⟨_, he⟩ | ⟨hm, _, rfl, _⟩
  · rwa [he]
  · rcases stepEvent_of_underWay (moveUnderWay_of_invariant h h' hm) with ⟨_, u, he⟩ | ⟨hgo, _⟩
    · rw [he]
      exact endOfMove_moveBindingInvariant u
    · exact hgo.underWay.moveBindingInvariant

theorem execStpEnable_moveBindingInvariant {a : Bool} {s t : State} (h : StepperInvariant s)
    (h' : MoveBindingInvariant s) (e : execStpEnable a s = .next t) : MoveBindingInvariant t := by
  rcases execStpEnable_cases a s with ⟨_, hc⟩ | ⟨hm, hc⟩ | ⟨_, _, hc⟩ <;> cases e.symm.trans hc
  · exact h'
  · obtain ⟨_, _, _, _, _, hrest⟩ := h
    obtain ⟨_, _, _, _, hperiod⟩ := hrest (by simp [hm])
    obtain ⟨⟨hdist, _⟩, _⟩ := h'
    have hnotDist : s.stp.distMode = false := by simpa [hm] using hdist
    exact moveBindingInvariant_of_not_movingDist (by simp) hnotDist hperiod fun hun => by simp at hun
  · exact h'

theorem execStpSetDir_moveBindingInvariant {a : Bool} {s t : State} (h' : MoveBindingInvariant s)
    (e : execStpSetDir a s = .next t) : MoveBindingInvariant t := by
  rcases execStpSetDir_cases a s with ⟨_, hc⟩ | ⟨hm, hc⟩ <;> cases e.symm.trans hc
  · exact h'
  · obtain ⟨hmove, _⟩ := h'
    exact ⟨hmove, fun hun => absurd hun hm⟩

theorem execStpRun_moveBindingInvariant {a : Bool} {s t : State} (h' : MoveBindingInvariant s)
    (e : execStpRun a s = .next t) : MoveBindingInvariant t := by
  rcases execStpRun_cases a s with ⟨_, hc⟩ | ⟨_, hc⟩ <;> cases e.symm.trans hc
  · exact h'
  · rw [setRun_eq]
    exact moveBindingInvariant_of_not_movingDist (by simp) rfl rfl fun hun => by simp at hun

/-- A zero-length move stops at once; any other is under way, with the target that R174 plans. -/
theorem execStpMove_moveBindingInvariant {a : Bool} {s t : State} (h' : MoveBindingInvariant s)
    (e : execStpMove a s = .next t) : MoveBindingInvariant t := by
  rcases execStpMove_cases a s with ⟨_, hc⟩ | ⟨_, _, hc⟩ | ⟨_, _, _, hc⟩ | ⟨hcan, hupr, hspr, _⟩
  · cases e.symm.trans hc; exact h'
  · cases e.symm.trans hc; exact h'
  · cases e.symm.trans hc; exact h'
  · have hstart : Startable s := (canStart_eq_true _).1 hcan
    have hupr' : s.snap.stpUpr ≠ 0 := mt (unitsPerRev_eq_zero_iff s).2 hupr
    have hspr' : s.snap.stpSpr ≠ 0 := mt (stepsPerRev_eq_zero_iff s).2 hspr
    obtain ⟨_, hmove⟩ := stpMoveStartsAPlannedMove
    obtain ⟨_, _, _, hempty, _⟩ := hmove a s _ _ rfl rfl
    by_cases hzero : s.snap.opa.toNat % 65536 / s.snap.stpUpr.toNat = 0 ∧
        s.snap.opa.toNat % 65536 % s.snap.stpUpr.toNat * s.snap.stpSpr.toNat / s.snap.stpUpr.toNat = 0
    · obtain ⟨hrevs, hfin⟩ := hzero
      cases e.symm.trans (hempty hstart hupr' hspr' hrevs hfin)
      exact moveBindingInvariant_of_not_movingDist (by simp [succeeded]) rfl rfl fun hun => by simp [succeeded] at hun
    · obtain ⟨u, hu, hway, _⟩ := execStpMove_underWay a hstart hupr' hspr' rfl rfl (by omega)
      cases e.symm.trans hu
      exact hway.moveBindingInvariant

theorem execStpStop_moveBindingInvariant {a : Bool} {s t : State} (h' : MoveBindingInvariant s)
    (e : execStpStop a s = .next t) : MoveBindingInvariant t := by
  rcases execStpStop_cases a s with ⟨_, hc⟩ | ⟨_, hc⟩ | ⟨hm, hstill, hc⟩ <;> cases e.symm.trans hc
  · exact h'
  · exact moveBindingInvariant_of_not_movingDist (by simp) rfl rfl fun hun => by simp at hun
  · have hmode : (motionStopped s).stp.mode = s.stp.mode := by simp [motionStopped]
    have hnot : (motionStopped s).stp.mode ≠ .movingDist := by
      rw [hmode]
      intro hdist
      simp [hdist, isMovingMode] at hstill
    exact moveBindingInvariant_of_not_movingDist hnot rfl rfl fun hun => absurd (hmode.symm.trans hun) hm

theorem execStpDisable_moveBindingInvariant {a : Bool} {s t : State} (h' : MoveBindingInvariant s)
    (e : execStpDisable a s = .next t) : MoveBindingInvariant t := by
  rcases execStpDisable_cases a s with ⟨_, hc⟩ | ⟨_, hc⟩ <;> cases e.symm.trans hc
  · exact h'
  · exact moveBindingInvariant_of_not_movingDist (by simp) rfl rfl fun hun => by simp at hun

theorem execStpRelease_moveBindingInvariant {a : Bool} {s t : State} (h' : MoveBindingInvariant s)
    (e : execStpRelease a s = .next t) : MoveBindingInvariant t := by
  rcases execStpRelease_cases a s with ⟨_, hc⟩ | ⟨_, hc⟩ <;> cases e.symm.trans hc
  · exact h'
  · exact moveBindingInvariant_of_not_movingDist (by simp) rfl rfl fun _ => ⟨rfl, rfl⟩

theorem exec_moveBindingInvariant {i : Instr} {s t : State} (h : StepperInvariant s) (h' : MoveBindingInvariant s)
    (e : exec i s = .next t) : MoveBindingInvariant t := by
  cases exec_changedByUnit e with
  | completed ht => exact h'.of_stepperFields_eq (by rw [ht]; rfl)
  | arithmetic _ ht => exact h'.of_stepperFields_eq (by rw [ht]; rfl)
  | solver _ ht => exact h'.of_stepperFields_eq (by rw [ht]; rfl)
  | stepper hi _ =>
    rcases hi with ⟨a, rfl | rfl | rfl | rfl⟩ | ⟨a, rfl | rfl | rfl | rfl | rfl⟩
    · cases e.symm.trans (execStpInit_eq a s)
      exact moveBindingInvariant_of_not_movingDist (by simp) rfl rfl fun hun => by simp at hun
    · exact execStpStop_moveBindingInvariant (a := a) h' e
    · exact execStpDisable_moveBindingInvariant (a := a) h' e
    · exact execStpRelease_moveBindingInvariant (a := a) h' e
    · exact execStpEnable_moveBindingInvariant (a := a) h h' e
    · exact execStpSetDir_moveBindingInvariant (a := a) h' e
    · exact execStpRun_moveBindingInvariant (a := a) h' e
    · exact execStpMove_moveBindingInvariant (a := a) h' e
    · cases e; exact stepEvent_moveBindingInvariant _ h h'

/-! ### ERR and ERRCODE -/

theorem raiseError_errorInvariant {c : ErrCode} (hc : c ≠ .none) (s : State) : ErrorInvariant (raiseError c s) := by
  simp [ErrorInvariant, hc]

theorem exec_errorInvariant {i : Instr} {s t : State} (h : ErrorInvariant s) (e : exec i s = .next t) :
    ErrorInvariant t := by
  rcases exec_cases i s with ⟨c, hc, he⟩ | ⟨u, he, herr, hcode, _⟩ <;> cases e.symm.trans he
  · exact raiseError_errorInvariant (by rcases hc with rfl | rfl | rfl <;> decide) s
  · simpa [ErrorInvariant, herr, hcode] using h

/-- W1C clears ERR together with ERRCODE (spec/10_state.md R26). -/
theorem clearStatus_errorInvariant {s : State} (v : Word) (h : ErrorInvariant s) :
    ErrorInvariant (clearStatus v s) := by
  unfold clearStatus ErrorInvariant
  cases v.getLsbD 2 with
  | false => simpa using h
  | true => simp

theorem issue_errorInvariant {s : State} (h : ErrorInvariant s) : ErrorInvariant (issue s) := by
  cases hbusy : s.engBusy with
  | false => rw [issue_idle hbusy]; exact h
  | true => rw [issue_busy hbusy]; simp [ErrorInvariant]

theorem writeReg_errorInvariant {s : State} (r : Reg) (j : Nat) (n : AccessSize) (v : Word) (h : ErrorInvariant s) :
    ErrorInvariant (writeReg r j n v s) := by
  cases r with
  | status =>
    rw [writeReg]
    split_ifs
    · exact clearStatus_errorInvariant v h
    · exact h
  | cmd =>
    rw [writeReg]
    split_ifs
    · exact issue_errorInvariant h
    · exact h
  | _ => exact h

theorem hostRead_errorInvariant {s : State} (off : Int) (n : AccessSize) (h : ErrorInvariant s) :
    ErrorInvariant (hostRead off n s) := by
  rcases hostRead_cases off n s with hc | hc | ⟨o, hc⟩ <;> rw [hc]
  · exact h
  · simp [ErrorInvariant]
  · exact h

theorem hostWrite_errorInvariant {s : State} (off : Int) (n : AccessSize) (v : Word) (h : ErrorInvariant s) :
    ErrorInvariant (hostWrite off n v s) := by
  rcases hostWrite_cases off n v s with hc | hc | ⟨r, j, hc⟩ <;> rw [hc]
  · exact h
  · simp [ErrorInvariant]
  · exact writeReg_errorInvariant r j n v h

/-! ### RESID and FALLBACK -/

theorem applyVelocity_residualInvariant (tf : Word) (s : State) : ResidualInvariant (applyVelocity tf s) := by
  unfold applyVelocity
  cases s.stp.src with
  | pwm =>
    simp only [ResidualInvariant, applyPwmDuty, applyPwmPort, writePwmSolution]
    exact pwmSolve_residualFits ..
  | tm8 =>
    simp only [ResidualInvariant, applyTm8Port, writeTm8Solution]
    exact tm8Solve_residualFits ..

theorem requestedPwm_residualFits (s : State) : ResidualFits (requestedPwm s).fallback (requestedPwm s).resid := by
  unfold requestedPwm
  exact pwmSolve_residualFits ..

/-- A solver writes RESID and FALLBACK of one solution. -/
theorem exec_solver_residualInvariant {i : Instr} {s t : State} (h : ResidualInvariant s) (hi : IsSolver i)
    (e : exec i s = .next t) : ResidualInvariant t := by
  rcases hi with ⟨a, rfl | rfl | rfl | rfl⟩ | ⟨a, rfl⟩
  · obtain ⟨sol, port, hsol, hc⟩ := execPwmSolve_cases a s
    have hfits : ResidualFits sol.fallback sol.resid := by rw [hsol]; exact requestedPwm_residualFits s
    cases e.symm.trans hc; exact hfits
  · obtain ⟨sol, duty, port, pduty, hsol, hc⟩ := execPwmSolveDuty_cases a s
    have hfits : ResidualFits sol.fallback sol.resid := by rw [hsol]; exact requestedPwm_residualFits s
    cases e.symm.trans hc; exact hfits
  · obtain ⟨sol, port, hsol, hc⟩ := execTm8Solve_cases a s
    have hfits : ResidualFits sol.fallback sol.resid := by rw [hsol]; exact tm8Solve_residualFits ..
    cases e.symm.trans hc; exact hfits
  · rcases execStpSetVel_cases a s with ⟨_, hc⟩ | ⟨_, _, hc⟩ | ⟨_, _, tf, hc⟩ <;> cases e.symm.trans hc
    · exact h
    · exact h
    · exact applyVelocity_residualInvariant tf { s with stpTfreq := tf }
  · obtain ⟨reg, port, hc⟩ := execTm8Duty_cases a s
    cases e.symm.trans hc; exact h

theorem exec_residualInvariant {i : Instr} {s t : State} (h : ResidualInvariant s) (e : exec i s = .next t) :
    ResidualInvariant t := by
  cases exec_changedByUnit e with
  | completed ht => rw [ht]; exact h
  | arithmetic _ ht => rw [ht]; exact h
  | solver hi _ => exact exec_solver_residualInvariant h hi e
  | stepper _ ht => rw [ht]; exact h

theorem exec_rst {i : Instr} {s t : State} (e : exec i s = .next t) : t.rst = s.rst := by
  cases exec_changedByUnit e with
  | completed ht => rw [ht]; rfl
  | arithmetic _ ht => rw [ht]
  | solver _ ht => rw [ht]
  | stepper _ ht => rw [ht]

/-! ### All of it -/

/-- At reset, asserted or released, every part holds (spec/70_reset_and_hazards.md R240, R241). -/
theorem invariant_blockReset (level : Bool) (s : State) : Invariant (blockReset level s) := by
  obtain ⟨hmove, hunbound⟩ : MoveBindingInvariant (blockReset level s) :=
    moveBindingInvariant_of_not_movingDist (fun hdist => nomatch hdist) rfl rfl fun _ => ⟨rfl, rfl⟩
  have herror : ErrorInvariant State.reset := by decide
  have hresidual : ResidualInvariant State.reset := by decide
  exact ⟨reset_stepperInvariant.of_stepperFields_eq rfl, hmove, hunbound, herror, hresidual, fun h => by cases h; rfl⟩

/-- Settles O46: the reset state is the one that the release of `rst` leaves. -/
theorem resetStateSatisfiesTheInvariant : Obligations.ResetStateSatisfiesTheInvariant :=
  invariant_blockReset false State.reset

/-- With `rst` released nothing is asked of the reset values. -/
theorem resetInvariant_of_released {s : State} (h : s.rst = false) : ResetInvariant s := fun hrst => by simp [h] at hrst

theorem exec_invariant {i : Instr} {s t : State} (h : Invariant s) (hrst : s.rst = false) (e : exec i s = .next t) :
    Invariant t := by
  obtain ⟨hstepper, hmove, hunbound, herror, hresidual, _⟩ := h
  obtain ⟨hmove', hunbound'⟩ := exec_moveBindingInvariant hstepper ⟨hmove, hunbound⟩ e
  exact ⟨exec_stepperInvariant hstepper e, hmove', hunbound', exec_errorInvariant herror e,
    exec_residualInvariant hresidual e, resetInvariant_of_released ((exec_rst e).trans hrst)⟩

theorem raiseError_invariant {c : ErrCode} {s : State} (hc : c ≠ .none) (h : Invariant s) (hrst : s.rst = false) :
    Invariant (raiseError c s) := by
  obtain ⟨hstepper, hmove, hunbound, _, hresidual, _⟩ := h
  exact ⟨hstepper, hmove, hunbound, raiseError_errorInvariant hc s, hresidual, resetInvariant_of_released hrst⟩

theorem Invariant.entryTaken {s : State} (h : Invariant s) : Invariant (entryTaken s) := by
  obtain ⟨hstepper, hmove, hunbound, herror, hresidual, hreset⟩ := h
  refine ⟨hstepper, hmove, hunbound, herror, hresidual, fun hrst => ?_⟩
  rw [Claims.entryTaken, hreset hrst]

/-- With `rst` released, an access or an event: each part by itself. -/
theorem inputStep_invariant_released {s : State} {i : Input} (h : Invariant s) (hrst : s.rst = false)
    (h1 : i ≠ .rstAssert) (h2 : i ≠ .rstRelease) : Invariant (inputStep i s) := by
  obtain ⟨hstepper, hmove, hunbound, herror, hresidual, _⟩ := h
  have hkeep := inputStep_keeps_shelteredFields s h1 h2
  simp only [shelteredFields, Prod.mk.injEq] at hkeep
  obtain ⟨_, _, hresid, hfallback, hrst'⟩ := hkeep
  have hresidual' : ResidualInvariant (inputStep i s) := by rwa [ResidualInvariant, hresid, hfallback]
  have hreset' : ResetInvariant (inputStep i s) := resetInvariant_of_released (hrst'.trans hrst)
  have hrest : MoveBindingInvariant (inputStep i s) ∧ ErrorInvariant (inputStep i s) := by
    have hbinding : MoveBindingInvariant s := ⟨hmove, hunbound⟩
    rcases inputStep_cases i s with ⟨hreset, _⟩ | hc | hc | ⟨off, n, hc⟩ | ⟨off, n, v, hc⟩ | ⟨ch, hc⟩
    · exact absurd hreset (by simp [h1, h2])
    · rw [hc]; exact ⟨hbinding, herror⟩
    · rw [hc]; exact ⟨hbinding, herror⟩
    · rw [hc]
      exact ⟨hbinding.of_stepperFields_eq (stepperFields_hostRead ..), hostRead_errorInvariant off n herror⟩
    · rw [hc]
      exact ⟨hbinding.of_stepperFields_eq (stepperFields_hostWrite ..), hostWrite_errorInvariant off n v herror⟩
    · rw [hc]
      refine ⟨stepEvent_moveBindingInvariant ch hstepper hbinding, ?_⟩
      rw [stepEvent_frame]; exact herror
  obtain ⟨⟨hmove', hunbound'⟩, herror'⟩ := hrest
  exact ⟨inputStep_stepperInvariant i hstepper, hmove', hunbound', herror', hresidual', hreset'⟩

/-- While `rst` is asserted the state is the reset state, and an input leaves it so. -/
theorem inputStep_invariant {s : State} (i : Input) (h : Invariant s) : Invariant (inputStep i s) := by
  by_cases h1 : i = .rstAssert
  · rw [h1]; exact invariant_blockReset true s
  cases hrst : s.rst with
  | true =>
    obtain ⟨_, _, _, _, _, hreset⟩ := id h
    by_cases h2 : i = .rstRelease
    · rw [h2, inputStep, if_pos hrst]; exact invariant_blockReset false s
    rcases inputStep_in_reset hrst h1 h2 with hc | hc <;> rw [hc]
    · exact h
    · rw [hreset hrst]; exact invariant_blockReset true { s with readData := 0 }
  | false =>
    by_cases h2 : i = .rstRelease
    · rw [h2, inputStep, hrst]; exact h
    exact inputStep_invariant_released h hrst h1 h2

/-- Settles O47: by the agent whose step it is. -/
theorem everyStepKeepsTheInvariant : Obligations.EveryStepKeepsTheInvariant := by
  intro s t h hstep
  have hentry := h.entryTaken
  rcases step_cases s with ⟨⟨_, hrst, _⟩, i, _, hc⟩ | ⟨⟨_, hrst, _⟩, hc⟩ | hc | ⟨i, _, hc⟩ <;> rw [hc] at hstep
  · exact exec_invariant hentry hrst hstep
  · cases hstep; exact raiseError_invariant (by decide) hentry hrst
  · cases hstep; exact hentry
  · cases hstep; exact inputStep_invariant i hentry

end Sys2Proof.Machine
end

section
/-! The register window (spec/20_memory.md): the fields of a register word, reads byte by byte, and what a write
stores. -/

namespace Sys2Proof.Machine

open Sys2Proof.Claims

/-! ### Fields of a word -/

/-- A word that is 0 outside the bits of `m`. -/
def Within (m w : Word) : Prop := w &&& m = w

theorem within_or {m a b : Word} (ha : Within m a) (hb : Within m b) : Within m (a ||| b) := by
  rw [Within, BitVec.and_or_distrib_right, ha, hb]

theorem within_allOnes (w : Word) : Within 0xFFFFFFFF w := BitVec.and_allOnes

/-- The bits of a field: those of the same field with every bit set. -/
theorem fieldAt_extractLsb' {n : Nat} (lsb : Nat) (w : Word) :
    fieldAt lsb (w.extractLsb' lsb n) = w &&& fieldAt lsb (BitVec.allOnes n) := by
  apply BitVec.eq_of_getLsbD_eq
  intro i hi
  rw [BitVec.getLsbD_and, fieldAt_getLsbD _ _ _ hi, fieldAt_getLsbD _ _ _ hi, BitVec.getLsbD_extractLsb',
    BitVec.getLsbD_allOnes]
  by_cases h : lsb ≤ i
  · rw [Nat.add_sub_cancel' h]
    simp [h, Bool.and_comm]
  · simp [h]

theorem flagAt_getLsbD_self (k : Nat) (w : Word) : flagAt k (w.getLsbD k) = w &&& flagAt k true := by
  apply BitVec.eq_of_getLsbD_eq
  intro i hi
  rw [BitVec.getLsbD_and, flagAt_getLsbD _ _ _ hi, flagAt_getLsbD _ _ _ hi]
  by_cases h : i = k <;> simp [h]

/-- The field that stands at a place of a word. -/
theorem extractLsb'_fieldAt {n : Nat} {lsb : Nat} (v : BitVec n) (h : lsb + n ≤ 32) :
    (fieldAt lsb v).extractLsb' lsb n = v := by
  apply BitVec.eq_of_getLsbD_eq
  intro i hi
  rw [BitVec.getLsbD_extractLsb', fieldAt_getLsbD _ _ _ (by omega)]
  simp [hi]

/-- A field that stands elsewhere shows nothing there. -/
theorem extractLsb'_fieldAt_disjoint {n m : Nat} {lsb k : Nat} (v : BitVec n) (hk : k + m ≤ 32)
    (h : k + m ≤ lsb ∨ lsb + n ≤ k) : (fieldAt lsb v).extractLsb' k m = 0 := by
  apply BitVec.eq_of_getLsbD_eq
  intro i hi
  rw [BitVec.getLsbD_extractLsb', fieldAt_getLsbD _ _ _ (by omega)]
  rcases h with h | h
  · simp [show ¬ lsb ≤ k + i by omega]
  · simp [BitVec.getLsbD_of_ge v (k + i - lsb) (by omega)]

theorem within_fieldAt {n : Nat} {lsb : Nat} {m : Word} {v : BitVec n} (hn : lsb + n ≤ 32)
    (h : Within m (fieldAt lsb (BitVec.allOnes n))) : Within m (fieldAt lsb v) := by
  have hv : fieldAt lsb v = fieldAt lsb v &&& fieldAt lsb (BitVec.allOnes n) := by
    rw [← fieldAt_extractLsb', extractLsb'_fieldAt v hn]
  rw [Within] at h ⊢
  rw [hv, BitVec.and_assoc, h]

/-- The reserved bits of every register read 0 (spec/10_state.md R24). -/
theorem readReg_within (r : Reg) (s : State) : Within (namedBits r) (readReg r s) := by
  cases r with
  | cmd | opa | opb | res0 | res1 | ratio | resid | clkPwm | clkTm8 | stpTfreq => exact within_allOnes _
  | _ =>
    simp only [readReg, statusWord, Ctrl.word, SolveReg.word, runWord, Tm8Port.word, StpState.word, flagAt]
    repeat' with_reducible apply within_or
    all_goals exact within_fieldAt (by decide) (by unfold Within; decide)

/-! ### Reads, R72, R74, R75 -/

theorem windowByte_register (r : Reg) {j : Nat} (hj : j < 4) (s : State) :
    windowByte (r.offset + j) s = byteAt (readReg r s) j := by
  obtain ⟨haligned, _⟩ := offset_aligned r
  rw [windowByte, show (r.offset + j) % 4 = j by omega, Nat.add_sub_cancel, regAt_offset]
  rfl

theorem windowByte_reserved {o : Nat} (h : 0x64 ≤ o) (s : State) : windowByte o s = 0 := by
  rw [windowByte, regAt_reserved (by omega)]

/-- Two bytes of a word side by side. -/
theorem halfOfBytes (w : Word) (j : Nat) :
    fieldAt 0 (byteAt w j) ||| fieldAt 8 (byteAt w (j + 1)) = (w.extractLsb' (8 * j) 16).setWidth 32 := by
  apply BitVec.eq_of_getLsbD_eq
  intro i hi
  rw [BitVec.getLsbD_or, fieldAt_getLsbD _ _ _ hi, fieldAt_getLsbD _ _ _ hi, byteAt_getLsbD, byteAt_getLsbD,
    BitVec.getLsbD_setWidth, BitVec.getLsbD_extractLsb']
  by_cases hlow : i < 8
  · simp [hi, hlow, show ¬ 8 ≤ i by omega, show i < 16 by omega]
  · rw [show 8 * (j + 1) + (i - 8) = 8 * j + i by omega]
    by_cases hhigh : i < 16
    · simp [hi, hlow, hhigh, show 8 ≤ i by omega, show i - 8 < 8 by omega]
    · simp [hlow, hhigh, show ¬ i - 8 < 8 by omega]

/-- The four bytes of a word side by side. -/
theorem wordOfBytes (w : Word) :
    fieldAt 0 (byteAt w 0) ||| fieldAt 8 (byteAt w 1) ||| fieldAt 16 (byteAt w 2) ||| fieldAt 24 (byteAt w 3) = w := by
  simp only [byteAt, fieldAt_extractLsb', ← BitVec.and_or_distrib_left]
  exact BitVec.and_allOnes

/-- Settles O49: each read is the bytes of its register side by side. -/
theorem readsAreLittleEndian : Obligations.ReadsAreLittleEndian := by
  intro s r j hj
  refine ⟨windowByte_register r hj s, ?_, fun heven => ?_, ?_⟩
  · have hbyte (k : Nat) (hk : k < 4) := windowByte_register r hk s
    have h0 : windowByte r.offset s = byteAt (readReg r s) 0 := hbyte 0 (by decide)
    rw [readWindow, h0, hbyte 1 (by decide), hbyte 2 (by decide), hbyte 3 (by decide), wordOfBytes]
  · rw [readWindow, windowByte_register r hj, Nat.add_assoc, windowByte_register r (by omega), halfOfBytes]
    simpa [Nat.shiftRight_eq_div_pow] using (Nat.mod_lt _ (by decide)).trans (by decide)
  · rw [readWindow, windowByte_register r hj, byteAt, fieldAt]
    simpa [Nat.shiftRight_eq_div_pow] using (Nat.mod_lt _ (by decide)).trans (by decide)

theorem misaligned_eq_false {o : Nat} {n : AccessSize} (h : o % n.bytes = 0) : misaligned o n = false := by
  simp [misaligned, h]

theorem misaligned_eq_true {o : Nat} {n : AccessSize} (h : o % n.bytes ≠ 0) : misaligned o n = true := by
  simp [misaligned, h]

/-- An aligned read inside the window changes the value returned and nothing else. -/
theorem hostRead_aligned {o : Nat} {n : AccessSize} (h : o < 128) (ha : o % n.bytes = 0) (s : State) :
    hostRead (o : Int) n s = { s with readData := readWindow o n s } := by
  rw [hostRead, windowOffset_inside h]
  simp only [misaligned_eq_false ha, Bool.false_eq_true, if_false]

theorem hostWrite_aligned {o : Nat} {n : AccessSize} (h : o < 128) (ha : o % n.bytes = 0) (v : Word) (s : State) :
    hostWrite (o : Int) n v s = writeWindow o n v s := by
  rw [hostWrite, windowOffset_inside h]
  simp only [misaligned_eq_false ha, Bool.false_eq_true, if_false]

theorem readWindow_reserved {o : Nat} (h : 0x64 ≤ o) (n : AccessSize) (s : State) : readWindow o n s = 0 := by
  have hbyte (k : Nat) : windowByte (o + k) s = 0 := windowByte_reserved (by omega) s
  have h0 : windowByte o s = 0 := hbyte 0
  cases n <;> simp only [readWindow, h0, hbyte] <;> rfl

theorem writeWindow_reserved {o : Nat} (h : 0x64 ≤ o) (n : AccessSize) (v : Word) (s : State) :
    writeWindow o n v s = s := by
  rw [writeWindow, regAt_reserved (by omega)]

/-- Settles O52: no register stands at these offsets. -/
theorem reservedOffsetsAreInert : Obligations.ReservedOffsetsAreInert := by
  intro s o n v hlow hhigh ha
  exact ⟨by rw [hostWrite_aligned hhigh ha, writeWindow_reserved hlow],
    by rw [hostRead_aligned hhigh ha, readWindow_reserved hlow]⟩

/-- Settles O53: the alignment is tested before the register is sought. -/
theorem misalignedAccessReportsBus : Obligations.MisalignedAccessReportsBus := by
  intro s o n v ho hmis
  constructor
  · rw [hostRead, windowOffset_inside ho]
    simp only [misaligned_eq_true hmis, if_true]
    rfl
  · rw [hostWrite, windowOffset_inside ho]
    simp only [misaligned_eq_true hmis, if_true]
    rfl

/-- The step of an agent other than the engine, by its entry. -/
theorem step_of_head {s : State} {i : Input} (h : s.inputs.head? = some i) (hi : i ≠ .engine) :
    step s = .next (inputStep i (entryTaken s)) := by
  obtain ⟨rest, hin⟩ := List.head?_eq_some_iff.1 h
  rw [step_input_cons hin hi, entryTaken, hin, List.tail_cons]

/-- Settles O54: an access is the step of its entry; outside the window it finds no offset. -/
theorem hostAccessesAreStepsAndReadsHaveNoSideEffect : Obligations.HostAccessesAreStepsAndReadsHaveNoSideEffect := by
  intro s off n v
  refine ⟨fun hrst hin => ?_, fun hrst hin => ?_, fun hout => ?_, fun hlow hhigh ha => ?_⟩
  · rw [step_of_head hin (by simp), inputStep, entryTaken, hrst, if_neg Bool.false_ne_true]
  · rw [step_of_head hin (by simp), inputStep, entryTaken, hrst, if_neg Bool.false_ne_true]
  · rw [hostRead, hostWrite, windowOffset_outside hout]
    exact ⟨rfl, rfl⟩
  · have hread := hostRead_aligned (o := off.toNat) (n := n) (by omega) ha s
    rwa [Int.toNat_of_nonneg hlow] at hread

/-! ### What a write stores, R72, R73, R75 -/

/-- The word `w` stored in a register that the host reads and writes; the others ignore it. -/
def storeReg (r : Reg) (w : Word) (s : State) : State :=
  match r with
  | .ctrl => { s with ctrl := Ctrl.ofWord w }
  | .opa => { s with opa := w }
  | .opb => { s with opb := w }
  | .clkPwm => { s with clkPwm := w }
  | .clkTm8 => { s with clkTm8 := w }
  | .run => { s with pwmRun := w.getLsbD 0, tm8Run := w.getLsbD 1 }
  | .stpUpr => { s with stpUpr := w.truncate 16 }
  | .stpSpr => { s with stpSpr := w.truncate 16 }
  | .status | .cmd | .res0 | .res1 | .solve | .duty | .ratio | .resid | .pwmPort | .pwmPduty | .tm8Port
  | .stpTfreq | .stpRevs | .stpCur | .stpFinal | .stpState | .stpMspr => s

/-- A write to such a register stores the word that it reads with the written bytes in place. -/
theorem writeReg_eq_storeReg {r : Reg} (hr : PlainReadWrite r) (j : Nat) (n : AccessSize) (v : Word) (s : State) :
    writeReg r j n v s = storeReg r (mergeBytes (readReg r s) j n v) s := by
  rcases hr with (rfl | rfl | rfl | rfl | rfl | rfl | rfl) | rfl <;> rfl

/-- The host's registers and no other field. -/
theorem storeReg_frame (r : Reg) (w : Word) (s : State) :
    storeReg r w s = { s with
      ctrl := (storeReg r w s).ctrl, opa := (storeReg r w s).opa, opb := (storeReg r w s).opb
      clkPwm := (storeReg r w s).clkPwm, clkTm8 := (storeReg r w s).clkTm8
      pwmRun := (storeReg r w s).pwmRun, tm8Run := (storeReg r w s).tm8Run
      stpUpr := (storeReg r w s).stpUpr, stpSpr := (storeReg r w s).stpSpr } := by
  cases r <;> rfl

theorem fieldAt_truncate_16 (w : Word) : fieldAt 0 (w.truncate 16 : Half) = w &&& 0xFFFF := by
  rw [BitVec.truncate_eq_setWidth, BitVec.setWidth_eq_extractLsb' (by decide), fieldAt_extractLsb']
  rfl

theorem ctrl_word_ofWord (w : Word) : (Ctrl.ofWord w).word = w &&& 0x7F7 := by
  simp only [Ctrl.word, Ctrl.ofWord, flagAt_getLsbD_self, fieldAt_extractLsb', ← BitVec.and_or_distrib_left]
  rfl

theorem runWord_store (w : Word) : flagAt 0 (w.getLsbD 0) ||| flagAt 1 (w.getLsbD 1) = w &&& 0x3 := by
  rw [flagAt_getLsbD_self, flagAt_getLsbD_self, ← BitVec.and_or_distrib_left]
  rfl

/-- The stored word reads back, with its reserved bits 0. -/
theorem readReg_storeReg_same {r : Reg} (hr : PlainReadWrite r) (w : Word) (s : State) :
    readReg r (storeReg r w s) = w &&& namedBits r := by
  rcases hr with (rfl | rfl | rfl | rfl | rfl | rfl | rfl) | rfl
  · exact ctrl_word_ofWord w
  · exact (within_allOnes w).symm
  · exact (within_allOnes w).symm
  · exact (within_allOnes w).symm
  · exact (within_allOnes w).symm
  · exact fieldAt_truncate_16 w
  · exact fieldAt_truncate_16 w
  · exact runWord_store w

/-- Every other register stands in other fields; but STATUS shows the enables of CTRL live, in its bit IRQ. -/
theorem readReg_storeReg_of_ne {r r' : Reg} (hne : r' ≠ r) (hirq : r = .ctrl → r' ≠ .status) (w : Word) (s : State) :
    readReg r' (storeReg r w s) = readReg r' s := by
  cases r <;> cases r'
  case ctrl.status => exact absurd rfl (hirq rfl)
  case ctrl.ctrl | opa.opa | opb.opb | clkPwm.clkPwm | clkTm8.clkTm8 | run.run | stpUpr.stpUpr | stpSpr.stpSpr =>
    exact absurd rfl hne
  all_goals rfl

/-- Reserved bits of a stored word are ignored. -/
theorem storeReg_and_namedBits (r : Reg) (w : Word) (s : State) :
    storeReg r (w &&& namedBits r) s = storeReg r w s := by
  cases r with
  | ctrl =>
    have hbits (x : BitVec 2) : x &&& 3#2 = x := BitVec.and_allOnes
    have hctrl : Ctrl.ofWord (w &&& 0x7F7) = Ctrl.ofWord w := by
      simp [Ctrl.ofWord, BitVec.extractLsb'_and, hbits]
    simp only [storeReg, namedBits, hctrl]
  | opa | opb | clkPwm | clkTm8 => simp only [storeReg, namedBits, show w &&& 0xFFFFFFFF = w from within_allOnes w]
  | run => simp [storeReg, namedBits]
  | stpUpr | stpSpr =>
    have hhalf : (w &&& 0xFFFF).truncate 16 = w.truncate 16 := by
      rw [BitVec.truncate_eq_setWidth, BitVec.setWidth_and]
      exact BitVec.and_allOnes
    simp only [storeReg, namedBits, hhalf]
  | _ => rfl

end Sys2Proof.Machine
end

section
/-! What host writes do to the registers of the window (spec/20_memory.md R72, R73, R75, spec/10_state.md R23, R24). -/

namespace Sys2Proof.Machine

open Sys2Proof.Claims

/-! ### The bytes of the window after a write -/

/-- An offset of the window is a byte of a register, or reads 0 in every state. -/
theorem windowByte_cases (o : Nat) :
    (∃ (r : Reg) (k : Nat), k < 4 ∧ o = r.offset + k) ∨
    ((∀ (r : Reg) (k : Nat), k < 4 → o ≠ r.offset + k) ∧ ∀ s, windowByte o s = 0) := by
  cases hreg : regAt (o - o % 4) with
  | some r =>
    have hoff := offset_of_regAt hreg
    exact .inl ⟨r, o % 4, Nat.mod_lt _ (by decide), by omega⟩
  | none =>
    refine .inr ⟨?_, fun s => by rw [windowByte, hreg]⟩
    rintro r k hk rfl
    obtain ⟨haligned, _⟩ := offset_aligned r
    rw [show r.offset + k - (r.offset + k) % 4 = r.offset by omega, regAt_offset] at hreg
    cases hreg

theorem offset_injective {r r' : Reg} (h : r.offset = r'.offset) : r = r' := by
  have hreg := regAt_offset r
  rw [h, regAt_offset] at hreg
  exact (Option.some.inj hreg).symm

theorem byteAt_and (a b : Word) (k : Nat) : byteAt (a &&& b) k = byteAt a k &&& byteAt b k := BitVec.extractLsb'_and

/-- Byte k of a register after a write to it: the written byte with its reserved bits 0, or the byte as it was. -/
theorem byteAt_readReg_writeReg {r : Reg} (hr : PlainReadWrite r) (j : Nat) (n : AccessSize) (v : Word) (s : State)
    {k : Nat} (hk : k < 4) :
    byteAt (readReg r (writeReg r j n v s)) k =
      if j ≤ k ∧ k < j + n.bytes then byteAt v (k - j) &&& byteAt (namedBits r) k else byteAt (readReg r s) k := by
  rw [writeReg_eq_storeReg hr, readReg_storeReg_same hr, byteAt_and, bytesReplaced_mergeBytes (readReg r s) v j n k hk]
  split_ifs
  · rfl
  · rw [← byteAt_and, show readReg r s &&& namedBits r = readReg r s from readReg_within r s]

/-- Every byte of the window after a write to a register: in its lanes as above, elsewhere as before. -/
theorem windowByte_writeReg {r : Reg} (hr : PlainReadWrite r) {j : Nat} {n : AccessSize} (hj : j < 4)
    (ha : j % n.bytes = 0) (v : Word) (s : State) {o : Nat} (hirq : r = .ctrl → 4 ≤ o) :
    windowByte o (writeReg r j n v s) =
      if r.offset + j ≤ o ∧ o < r.offset + j + n.bytes then
        byteAt v (o - (r.offset + j)) &&& byteAt (namedBits r) (o - r.offset)
      else windowByte o s := by
  have hfits := aligned_fits hj ha
  rcases windowByte_cases o with ⟨r', k, hk, rfl⟩ | ⟨hnone, hzero⟩
  · rw [windowByte_register r' hk, windowByte_register r' hk]
    by_cases hsame : r' = r
    · subst hsame
      rw [byteAt_readReg_writeReg hr j n v s hk, Nat.add_sub_add_left, Nat.add_sub_cancel_left]
      exact if_congr (by omega) rfl rfl
    · have hoff : r'.offset ≠ r.offset := fun h => hsame (offset_injective h)
      obtain ⟨haligned, _⟩ := offset_aligned r
      obtain ⟨haligned', _⟩ := offset_aligned r'
      have hstatus : r = .ctrl → r' ≠ .status := by
        rintro hctrl rfl
        have h4 : 4 ≤ 0 + k := hirq hctrl
        omega
      rw [if_neg (by omega), writeReg_eq_storeReg hr, readReg_storeReg_of_ne hsame hstatus]
  · rw [hzero, hzero, if_neg]
    rintro ⟨hlow, hhigh⟩
    exact hnone r (o - r.offset) (by omega) (by omega)

/-- Settles O50: an aligned write is `writeReg`, which stores the merged word or, read-only, nothing. -/
theorem writesAreLittleEndianAndTouchOnlyTheirBytes : Obligations.WritesAreLittleEndianAndTouchOnlyTheirBytes := by
  intro s r j n v hj ha
  rw [hostWrite_register r j n v s hj ha]
  constructor
  · rintro hr t rfl
    refine ⟨fun o _ hirq => windowByte_writeReg hr hj ha v s hirq, ?_⟩
    rw [writeReg_eq_storeReg hr]
    exact storeReg_frame ..
  · rintro (rfl | rfl | rfl | rfl | rfl | rfl | rfl | rfl | rfl | rfl | rfl | rfl | rfl | rfl | rfl) <;> rfl

/-! ### Reserved bits -/

/-- Of the bits of `m` the merge takes no more than those of the written value that stand in `m`. -/
theorem mergeBytes_and_mask (old m v : Word) (j : Nat) (n : AccessSize) :
    mergeBytes old j n (v &&& m >>> (8 * j)) &&& m = mergeBytes old j n v &&& m := by
  apply BitVec.eq_of_getLsbD_eq
  intro i hi
  rw [BitVec.getLsbD_and, BitVec.getLsbD_and, mergeBytes_getLsbD _ _ _ _ _ hi, mergeBytes_getLsbD _ _ _ _ _ hi]
  split_ifs with hlane
  · rw [BitVec.getLsbD_and, BitVec.getLsbD_ushiftRight, Nat.add_sub_cancel' hlane.1, Bool.and_assoc, Bool.and_self]
  · rfl

/-- W1C looks at bits 1, 2 and 3 only, which are named (spec/10_state.md R26). -/
theorem clearStatus_and_namedBits (v : Word) (s : State) :
    clearStatus (v &&& namedBits .status) s = clearStatus v s := by
  simp [clearStatus, namedBits]

/-- A write has the effect of the same write with the reserved bits cleared. -/
theorem writeReg_and_namedBits (r : Reg) (j : Nat) (n : AccessSize) (v : Word) (s : State) :
    writeReg r j n (v &&& namedBits r >>> (8 * j)) s = writeReg r j n v s := by
  have hplain (hr : PlainReadWrite r) : writeReg r j n (v &&& namedBits r >>> (8 * j)) s = writeReg r j n v s := by
    rw [writeReg_eq_storeReg hr, writeReg_eq_storeReg hr, ← storeReg_and_namedBits, mergeBytes_and_mask,
      storeReg_and_namedBits]
  cases r with
  | ctrl | opa | opb | clkPwm | clkTm8 | run | stpUpr | stpSpr => exact hplain (by decide)
  | status =>
    rw [writeReg, writeReg]
    split_ifs with hj
    · rw [hj, Nat.mul_zero, BitVec.ushiftRight_zero, clearStatus_and_namedBits]
    · rfl
  | cmd =>
    have hmerge := mergeBytes_and_mask s.cmd (namedBits .cmd) v j n
    rw [namedBits, within_allOnes, within_allOnes] at hmerge
    rw [writeReg, writeReg, namedBits, hmerge]
  | _ => rfl

/-- A whole word replaces the register's. -/
theorem mergeBytes_word (old v : Word) : mergeBytes old 0 .word v = v := by
  apply BitVec.eq_of_getLsbD_eq
  intro i hi
  rw [mergeBytes_getLsbD _ _ _ _ _ hi, if_pos ⟨by omega, hi⟩]
  rfl

/-- A word written to a register reads back without its reserved bits. -/
theorem readReg_hostWrite_word {r : Reg} (hr : PlainReadWrite r) (v : Word) (s : State) :
    readReg r (hostWrite (r.offset : Int) .word v s) = v &&& namedBits r := by
  have hwrite := hostWrite_register r 0 .word v s (by decide) rfl
  rw [Nat.add_zero] at hwrite
  rw [hwrite, writeReg_eq_storeReg hr, readReg_storeReg_same hr, mergeBytes_word]

/-- Settles O51: reads and writes of a register stay within its named bits. -/
theorem reservedBitsReadZeroAndIgnoreWrites : Obligations.ReservedBitsReadZeroAndIgnoreWrites := by
  refine ⟨fun s r => ?_, fun s r j n v hj ha => ?_, fun s v => ⟨?_, ?_, ?_, ?_⟩⟩
  · rw [← show readReg r s &&& namedBits r = readReg r s from readReg_within r s, BitVec.and_assoc, BitVec.and_not_self]
    exact BitVec.and_zero
  · rw [hostWrite_register r j n _ s hj ha, hostWrite_register r j n _ s hj ha, writeReg_and_namedBits]
  · exact readReg_hostWrite_word (r := .ctrl) (by decide) v s
  · exact readReg_hostWrite_word (r := .run) (by decide) v s
  · exact readReg_hostWrite_word (r := .stpUpr) (by decide) v s
  · exact readReg_hostWrite_word (r := .stpSpr) (by decide) v s

/-! ### RUN -/

/-- Settles O58: the two run bits stand in byte 0, which the write covers whole or leaves as it is. -/
theorem writingRunChangesOnlyTheRunBits : Obligations.WritingRunChangesOnlyTheRunBits := by
  intro s n v
  have hbit (j i : Nat) (hi : i < 32) := mergeBytes_getLsbD (runWord s) v j n i hi
  have hpwm : (runWord s).getLsbD 0 = s.pwmRun := by simpa using runWord_getLsbD s 0 (by decide)
  have htm8 : (runWord s).getLsbD 1 = s.tm8Run := by simpa using runWord_getLsbD s 1 (by decide)
  have hn : 1 ≤ n.bytes := by cases n <;> decide
  constructor
  · have hwrite := hostWrite_register .run 0 n v s (by decide) (Nat.zero_mod _)
    have h0 : v.getLsbD 0 = (v.toNat % 2 == 1) := by rw [getLsbD_eq_decide, pow_zero, Nat.div_one, beq_eq_decide]
    have h1 : v.getLsbD 1 = (v.toNat / 2 % 2 == 1) := by rw [getLsbD_eq_decide, pow_one, beq_eq_decide]
    rw [writeReg, hbit 0 0 (by decide), hbit 0 1 (by decide), if_pos (by omega), if_pos (by omega)] at hwrite
    rw [← h0, ← h1]
    exact hwrite
  · intro j h1 h4 ha
    have hwrite := hostWrite_register .run j n v s h4 ha
    rw [writeReg, hbit j 0 (by decide), hbit j 1 (by decide), if_neg (by omega), if_neg (by omega), hpwm,
      htm8] at hwrite
    exact hwrite

end Sys2Proof.Machine
end

section
/-! The snapshot keeps a running command from the writes to the registers that it reads (spec/70_reset_and_hazards.md
R244, spec/10_state.md R46): a command neither reads nor writes the registers themselves. -/

namespace Sys2Proof.Machine

open Sys2Proof.Claims

/-- The snapshotted registers with other contents. -/
def withOperands (o : Snapshot) (s : State) : State :=
  { s with
    ctrl := o.ctrl, opa := o.opa, opb := o.opb, clkPwm := o.clkPwm, clkTm8 := o.clkTm8
    stpUpr := o.stpUpr, stpSpr := o.stpSpr }

/-! What the commands are made of does not look at those registers. -/

theorem requestedPwm_withOperands (o : Snapshot) (s : State) : requestedPwm (withOperands o s) = requestedPwm s := by
  rw [requestedPwm, requestedPwm]
  rfl

theorem applyVelocity_withOperands (o : Snapshot) (tf : Word) (s : State) :
    applyVelocity tf (withOperands o s) = withOperands o (applyVelocity tf s) := by
  have hsrc : (withOperands o s).stp.src = s.stp.src := rfl
  have hsnap : (withOperands o s).snap = s.snap := rfl
  rw [applyVelocity, applyVelocity, hsrc, hsnap]
  cases s.stp.src with
  | pwm =>
    generalize pwmSolve tf s.snap.clkPwm s.snap.ctrl.pwmCorr s.snap.ctrl.pwmOdd = sol
    rfl
  | tm8 =>
    generalize tm8Solve tf s.snap.clkTm8 s.snap.ctrl.tm8Corr = sol
    rfl

theorem eventCounted_withOperands (o : Snapshot) (s : State) :
    eventCounted (withOperands o s) = withOperands o (eventCounted s) := by
  rw [eventCounted, eventCounted, apply_ite (withOperands o)]
  rfl

theorem stepEvent_withOperands (o : Snapshot) (ch : Channel) (s : State) :
    stepEvent ch (withOperands o s) = withOperands o (stepEvent ch s) := by
  rw [stepEvent_eq_eventTaken, stepEvent_eq_eventTaken, eventTaken, eventTaken, apply_ite (withOperands o),
    apply_ite (withOperands o), apply_ite (withOperands o), ← eventCounted_withOperands, ← eventCounted_withOperands]
  rfl

theorem complete_withOperands {o : Snapshot} {s t : State} (h : t = withOperands o s) :
    complete t = withOperands o (complete s) := by
  rw [h]; rfl

/-- The command `i` leaves other contents of the snapshotted registers as they are, and they change nothing else of
it. -/
def IgnoresOperands (i : Instr) (o : Snapshot) (s : State) : Prop :=
  ∃ t, exec i s = .next t ∧ exec i (withOperands o s) = .next (withOperands o t)

/-- A rule with two cases, by a condition on what the contents do not touch. -/
theorem ignoresOperands_of_two_cases {i : Instr} {o : Snapshot} {s : State} {p : Prop} {t u : State}
    (h : (p → exec i s = .next t) ∧ (¬ p → exec i s = .next u))
    (h' : (p → exec i (withOperands o s) = .next (withOperands o t)) ∧
      (¬ p → exec i (withOperands o s) = .next (withOperands o u))) : IgnoresOperands i o s := by
  by_cases hp : p
  · exact ⟨t, h.1 hp, h'.1 hp⟩
  · exact ⟨u, h.2 hp, h'.2 hp⟩

theorem ignoresOperands_of_dividesAt {width opc : Nat} {command : Bool → Instr} (h : DividesAt width opc command)
    (a : Bool) (o : Snapshot) (s : State) : IgnoresOperands (command a) o s :=
  ignoresOperands_of_two_cases (h.2 a s) (h.2 a (withOperands o s))

theorem pwmSolve_ignoresOperands (a : Bool) (o : Snapshot) (s : State) : IgnoresOperands (.pwmSolve a) o s := by
  rw [IgnoresOperands, exec, exec, execPwmSolve, execPwmSolve, requestedPwm_withOperands]
  generalize requestedPwm s = sol
  refine ⟨_, rfl, ?_⟩
  cases a <;> rfl

theorem pwmSolveDuty_ignoresOperands (a : Bool) (o : Snapshot) (s : State) : IgnoresOperands (.pwmSolveDuty a) o s := by
  rw [IgnoresOperands, exec, exec, execPwmSolveDuty, execPwmSolveDuty, requestedPwm_withOperands]
  generalize requestedPwm s = sol
  refine ⟨_, rfl, ?_⟩
  cases a <;> rfl

theorem tm8Solve_ignoresOperands (a : Bool) (o : Snapshot) (s : State) : IgnoresOperands (.tm8Solve a) o s := by
  have hsnap : (withOperands o s).snap = s.snap := rfl
  rw [IgnoresOperands, exec, exec, execTm8Solve, execTm8Solve, targetFreq, targetFreq, hsnap]
  generalize tm8Solve s.snap.opa s.snap.clkTm8 s.snap.ctrl.tm8Corr = sol
  refine ⟨_, rfl, ?_⟩
  cases a <;> rfl

theorem stpEnable_ignoresOperands (a : Bool) (o : Snapshot) (s : State) : IgnoresOperands (.stpEnable a) o s := by
  obtain ⟨_, hexec⟩ := stpEnableLeavesIdle
  obtain ⟨hun, hidle, hrest⟩ := hexec a s
  obtain ⟨hun', hidle', hrest'⟩ := hexec a (withOperands o s)
  by_cases hm : s.stp.mode = .uninit
  · exact ⟨_, hun hm, hun' hm⟩
  by_cases hi : s.stp.mode = .idle
  · exact ⟨_, hidle hi, hidle' hi⟩
  exact ⟨_, hrest hm hi, hrest' hm hi⟩

theorem stpSetVel_ignoresOperands (a : Bool) (o : Snapshot) (s : State) : IgnoresOperands (.stpSetVel a) o s := by
  obtain ⟨_, hexec⟩ := stpSetVelSolvesForTheBoundSource
  obtain ⟨tf, htf⟩ : ∃ tf, tf = pulseFrequency (s.snap.opa.toNat % 65536) s.snap.stpSpr.toNat s.snap.stpUpr.toNat :=
    ⟨_, rfl⟩
  obtain ⟨hun, hdivz, _⟩ := hexec a s tf htf
  obtain ⟨hun', hdivz', _⟩ := hexec a (withOperands o s) tf htf
  by_cases hm : s.stp.mode = .uninit
  · exact ⟨_, hun hm, hun' hm⟩
  by_cases hu : s.snap.stpUpr = 0
  · exact ⟨_, hdivz hm hu, hdivz' hm hu⟩
  obtain ⟨hsolve, _⟩ := execStpSetVel_solve a hm hu htf
  obtain ⟨hsolve', _⟩ := execStpSetVel_solve a (s := withOperands o s) hm hu htf
  have hvel := applyVelocity_withOperands o (BitVec.ofNat 32 tf) { s with stpTfreq := BitVec.ofNat 32 tf }
  exact ⟨_, hsolve, hsolve'.trans (congrArg Host.Outcome.next (complete_withOperands hvel))⟩

theorem stpMove_ignoresOperands (a : Bool) (o : Snapshot) (s : State) : IgnoresOperands (.stpMove a) o s := by
  obtain ⟨_, hexec⟩ := stpMoveStartsAPlannedMove
  obtain ⟨hno, hdivz, hconfig, hempty, hfar⟩ := hexec a s _ _ rfl rfl
  obtain ⟨hno', hdivz', hconfig', hempty', hfar'⟩ := hexec a (withOperands o s) _ _ rfl rfl
  by_cases hstart : Startable s
  case neg => exact ⟨_, hno hstart, hno' hstart⟩
  by_cases hu : s.snap.stpUpr = 0
  · exact ⟨_, hdivz hstart hu, hdivz' hstart hu⟩
  by_cases hp : s.snap.stpSpr = 0
  · exact ⟨_, hconfig hstart hu hp, hconfig' hstart hu hp⟩
  by_cases hzero : s.snap.opa.toNat % 65536 / s.snap.stpUpr.toNat = 0 ∧
      s.snap.opa.toNat % 65536 % s.snap.stpUpr.toNat * s.snap.stpSpr.toNat / s.snap.stpUpr.toNat = 0
  · obtain ⟨hr, hf⟩ := hzero
    exact ⟨_, hempty hstart hu hp hr hf, hempty' hstart hu hp hr hf⟩
  have hdist := not_and_or.1 hzero
  exact ⟨_, hfar hstart hu hp hdist, hfar' hstart hu hp hdist⟩

theorem stpStop_ignoresOperands (a : Bool) (o : Snapshot) (s : State) : IgnoresOperands (.stpStop a) o s := by
  obtain ⟨_, hexec⟩ := stpStopStopsTheMotion
  obtain ⟨hun, hmoving, hstill⟩ := hexec a s
  obtain ⟨hun', hmoving', hstill'⟩ := hexec a (withOperands o s)
  cases hm : s.stp.mode with
  | uninit => exact ⟨_, hun hm, hun' hm⟩
  | movingCont => exact ⟨_, hmoving (.inl hm), hmoving' (.inl hm)⟩
  | movingDist => exact ⟨_, hmoving (.inr hm), hmoving' (.inr hm)⟩
  | idle => exact ⟨_, hstill (.inl hm), hstill' (.inl hm)⟩
  | enabled => exact ⟨_, hstill (.inr (.inl hm)), hstill' (.inr (.inl hm))⟩
  | stopped => exact ⟨_, hstill (.inr (.inr hm)), hstill' (.inr (.inr hm))⟩

theorem exec_ignoresOperands (i : Instr) (o : Snapshot) (s : State) : IgnoresOperands i o s := by
  cases i with
  | nop a | mul8 a | mul16 a => exact ⟨_, rfl, rfl⟩
  | div8 a => exact ignoresOperands_of_dividesAt div8GivesQuotientAndRemainder a o s
  | div16 a => exact ignoresOperands_of_dividesAt div16GivesQuotientAndRemainder a o s
  | div24 a => exact ignoresOperands_of_dividesAt div24GivesQuotientAndRemainder a o s
  | div32 a => exact ignoresOperands_of_dividesAt div32GivesQuotientAndRemainder a o s
  | pwmSolve a => exact pwmSolve_ignoresOperands a o s
  | pwmSolveDuty a => exact pwmSolveDuty_ignoresOperands a o s
  | tm8Solve a => exact tm8Solve_ignoresOperands a o s
  | tm8Duty a => exact ⟨_, tm8DutyWritesTheBound.2 a s, tm8DutyWritesTheBound.2 a (withOperands o s)⟩
  | stpInit a => exact ⟨_, execStpInit_eq a s, execStpInit_eq a (withOperands o s)⟩
  | stpEnable a => exact stpEnable_ignoresOperands a o s
  | stpSetDir a =>
    obtain ⟨_, hexec⟩ := stpSetDirWritesTheDirection
    exact ignoresOperands_of_two_cases (hexec a s) (hexec a (withOperands o s))
  | stpSetVel a => exact stpSetVel_ignoresOperands a o s
  | stpRun a =>
    obtain ⟨_, hexec⟩ := stpRunStartsContinuousMotion
    exact ignoresOperands_of_two_cases (hexec a s).symm (hexec a (withOperands o s)).symm
  | stpMove a => exact stpMove_ignoresOperands a o s
  | stpStop a => exact stpStop_ignoresOperands a o s
  | stpDisable a =>
    obtain ⟨_, hexec⟩ := stpDisableGoesToIdle
    exact ignoresOperands_of_two_cases (hexec a s) (hexec a (withOperands o s))
  | stpRelease a =>
    obtain ⟨_, hexec⟩ := stpReleaseUnbindsAndFloatsThePins
    exact ignoresOperands_of_two_cases (hexec a s) (hexec a (withOperands o s))
  | stpEvent a =>
    exact ⟨_, rfl, congrArg Host.Outcome.next (complete_withOperands (stepEvent_withOperands o s.stp.src s))⟩

theorem exec_takeSnapshot {i : Instr} {s t : State} (h : exec i s = .next t) : takeSnapshot t = takeSnapshot s := by
  cases exec_changedByUnit h with
  | completed h => rw [h]; rfl
  | arithmetic _ h => rw [h]; rfl
  | solver _ h => rw [h]; rfl
  | stepper _ h => rw [h]; rfl

/-- A write to a snapshotted register changes the snapshotted registers and nothing else. -/
theorem writeReg_eq_withOperands {r : Reg} (hr : Snapshotted r) (j : Nat) (n : AccessSize) (v : Word) (s : State) :
    writeReg r j n v s = withOperands (takeSnapshot (writeReg r j n v s)) s := by
  rcases hr with rfl | rfl | rfl | rfl | rfl | rfl | rfl <;> rfl

/-- What it makes of them depends on them alone. -/
theorem takeSnapshot_writeReg {r : Reg} (hr : Snapshotted r) (j : Nat) (n : AccessSize) (v : Word) {s t : State}
    (h : takeSnapshot t = takeSnapshot s) :
    takeSnapshot (writeReg r j n v t) = takeSnapshot (writeReg r j n v s) := by
  simp only [takeSnapshot, Snapshot.mk.injEq] at h
  obtain ⟨hctrl, hopa, hopb, hclkPwm, hclkTm8, hupr, hspr⟩ := h
  rcases hr with rfl | rfl | rfl | rfl | rfl | rfl | rfl <;>
    simp only [writeReg, takeSnapshot, hctrl, hopa, hopb, hclkPwm, hclkTm8, hupr, hspr]

/-- Settles O57: the write gives the snapshotted registers the same contents before and after the command, which
does not look at them. -/
theorem snapshottedRegistersMayBeOverwritten : Obligations.SnapshottedRegistersMayBeOverwritten := by
  intro i s r j n v hr
  obtain ⟨t, ht, ht'⟩ := exec_ignoresOperands i (takeSnapshot (writeReg r j n v s)) s
  refine ⟨t, ht, ?_⟩
  rw [← writeReg_eq_withOperands hr, ← takeSnapshot_writeReg hr j n v (exec_takeSnapshot ht),
    ← writeReg_eq_withOperands hr] at ht'
  exact ht'

end Sys2Proof.Machine
end

section
/-! The place of every field in its register, the outputs that follow them, and reset (spec/10_state.md R25 to R48,
spec/70_reset_and_hazards.md R240). -/

namespace Sys2Proof.Machine

open Sys2Proof.Claims

/-! ### The layouts -/

theorem statusLayout (s : State) : StatusLayout s := by
  have hbit (i : Nat) (hi : i < 32) := statusWord_getLsbD s i hi
  have hcode : (statusWord s).extractLsb' 8 4 = s.errCode.bits := by
    simp (disch := omega) only [statusWord, flagAt, BitVec.extractLsb'_or, extractLsb'_fieldAt,
      extractLsb'_fieldAt_disjoint]
    simp
  refine ⟨(hbit 0 (by decide)).trans (by simp), (hbit 1 (by decide)).trans (by simp),
    (hbit 2 (by decide)).trans (by simp), (hbit 3 (by decide)).trans (by simp),
    (hbit 4 (by decide)).trans (by simp), (hbit 5 (by decide)).trans (by simp [outputs]), ?_⟩
  rw [readReg, hcode]
  cases s.errCode <;> rfl

theorem ctrlLayout (s : State) : CtrlLayout s := by
  have hbit (i : Nat) (hi : i < 32) := ctrlWord_getLsbD s.ctrl i hi
  refine ⟨(hbit 0 (by decide)).trans (by simp), (hbit 1 (by decide)).trans (by simp),
    (hbit 2 (by decide)).trans (by simp), ?_, ?_, (hbit 8 (by decide)).trans (by simp),
    (hbit 9 (by decide)).trans (by simp), (hbit 10 (by decide)).trans (by simp)⟩
  all_goals
    simp (disch := omega) only [readReg, Ctrl.word, flagAt, BitVec.extractLsb'_or, extractLsb'_fieldAt,
      extractLsb'_fieldAt_disjoint]
    simp

/-- The layout that SOLVE and PWM_PORT share. -/
theorem showsSolve_word (x : SolveReg) : ShowsSolve x.word x := by
  refine ⟨?_, ?_, ?_⟩
  all_goals
    simp (disch := omega) only [SolveReg.word, BitVec.extractLsb'_or, extractLsb'_fieldAt, extractLsb'_fieldAt_disjoint]
    simp

/-- The fields of TM8_PORT of more than one bit. -/
theorem tm8Word_extractLsb' (x : Tm8Port) :
    x.word.extractLsb' 0 2 = x.psc ∧ x.word.extractLsb' 8 5 = x.scalar ∧ x.word.extractLsb' 16 8 = x.bound := by
  refine ⟨?_, ?_, ?_⟩
  all_goals
    simp (disch := omega) only [Tm8Port.word, flagAt, BitVec.extractLsb'_or, extractLsb'_fieldAt,
      extractLsb'_fieldAt_disjoint]
    simp

/-- Its two bits. -/
theorem tm8Word_bits (x : Tm8Port) : x.word.getLsbD 24 = x.mode.bit ∧ x.word.getLsbD 25 = x.depth :=
  ⟨(tm8Word_getLsbD x 24 (by decide)).trans (by simp), (tm8Word_getLsbD x 25 (by decide)).trans (by simp)⟩

theorem runWord_bits (s : State) : (runWord s).getLsbD 0 = s.pwmRun ∧ (runWord s).getLsbD 1 = s.tm8Run :=
  ⟨(runWord_getLsbD s 0 (by decide)).trans (by simp), (runWord_getLsbD s 1 (by decide)).trans (by simp)⟩

theorem tm8Mode_bit_eq_true (m : Tm8Mode) : m.bit = true ↔ m = .pwm := by cases m <;> simp [Tm8Mode.bit]

theorem channel_bit_eq_true (ch : Channel) : ch.bit = true ↔ ch = .tm8 := by cases ch <;> simp [Channel.bit]

theorem solverLayouts (s : State) : SolverLayouts s := by
  obtain ⟨hpsc, hscalar, hbound⟩ := tm8Word_extractLsb' s.tm8Port
  obtain ⟨hmode, hdepth⟩ := tm8Word_bits s.tm8Port
  obtain ⟨hpwm, htm8⟩ := runWord_bits s
  refine ⟨showsSolve_word s.solve, showsSolve_word s.pwmPort, extractLsb'_fieldAt s.duty (by decide),
    extractLsb'_fieldAt s.pwmPduty (by decide), hpsc, hscalar, hbound, ?_, hdepth, hpwm, htm8⟩
  rw [← tm8Mode_bit_eq_true, ← hmode, readReg]

theorem stepperLayouts (s : State) : StepperLayouts s := by
  have hbit (i : Nat) (hi : i < 32) := stpWord_getLsbD s.stp i hi
  have hmode : s.stp.word.extractLsb' 0 3 = s.stp.mode.bits := by
    simp (disch := omega) only [StpState.word, flagAt, BitVec.extractLsb'_or, extractLsb'_fieldAt,
      extractLsb'_fieldAt_disjoint]
    simp
  have hsrc : s.stp.word.getLsbD 4 = s.stp.src.bit := (hbit 4 (by decide)).trans (by simp)
  refine ⟨?_, ?_, (hbit 5 (by decide)).trans (by simp), (hbit 6 (by decide)).trans (by simp),
    (hbit 7 (by decide)).trans (by simp), (hbit 8 (by decide)).trans (by simp),
    (hbit 9 (by decide)).trans (by simp), (hbit 12 (by decide)).trans (by simp),
    (hbit 13 (by decide)).trans (by simp), extractLsb'_fieldAt _ (by decide), extractLsb'_fieldAt _ (by decide),
    extractLsb'_fieldAt _ (by decide), extractLsb'_fieldAt _ (by decide), extractLsb'_fieldAt _ (by decide),
    extractLsb'_fieldAt _ (by decide)⟩
  · rw [readReg, hmode]
    cases s.stp.mode <;> rfl
  · rw [readReg, hsrc, channel_bit_eq_true]

/-- The outputs are the fields of the port registers, RUN and STP_STATE. -/
theorem outputsFollowRegisters (s : State) : OutputsFollowRegisters s := by
  obtain ⟨_, ⟨hpsc, hscalar, hbound⟩, _, hduty, htpsc, htscalar, htbound, _, htdepth, hpwm, htm8⟩ := solverLayouts s
  obtain ⟨htmode, _⟩ := tm8Word_bits s.tm8Port
  obtain ⟨_, _, hdir, _, _, _, _, hen, hoe, _⟩ := stepperLayouts s
  exact ⟨hpsc.symm, hscalar.symm, hbound.symm, hduty.symm, hpwm.symm, htpsc.symm, htscalar.symm, htbound.symm,
    htmode.symm, htdepth.symm, htm8.symm, hdir.symm, hen.symm, hoe.symm⟩

theorem irq_eq_true (s : State) :
    irq s = true ↔ (s.done = true ∧ s.ctrl.ieDone = true) ∨ (s.err = true ∧ s.ctrl.ieErr = true) ∨
      (s.moveDone = true ∧ s.ctrl.ieMove = true) := by
  simp only [irq, Bool.or_eq_true, Bool.and_eq_true, or_assoc]

/-- Settles O59: register by register; a register of one field is that field. -/
theorem registersAndOutputsShowTheirFields : Obligations.RegistersAndOutputsShowTheirFields := fun s =>
  ⟨statusLayout s, ctrlLayout s, solverLayouts s, stepperLayouts s,
    ⟨rfl, rfl, rfl, rfl, rfl, rfl, rfl, rfl, rfl, rfl⟩, outputsFollowRegisters s, ⟨rfl, rfl⟩, irq_eq_true s⟩

/-! ### Reset, R240 -/

/-- Every register has its reset value, whatever the level of `rst`. -/
theorem readReg_blockReset (r : Reg) (level : Bool) (s : State) : readReg r (blockReset level s) = resetValue r := by
  have hsame : readReg r (blockReset level s) = readReg r State.reset := by cases r <;> rfl
  rw [hsame]
  cases r <;> decide

/-- While `rst` is asserted the engine has no step. -/
theorem step_in_reset {s : State} (hrst : s.rst = true) :
    step s = .next (entryTaken s) ∨
      ∃ i, s.inputs.head? = some i ∧ step s = .next (inputStep i (entryTaken s)) := by
  rcases step_cases s with ⟨⟨_, hrel, _⟩, _⟩ | ⟨⟨_, hrel, _⟩, _⟩ | h | h
  · simp [hrst] at hrel
  · simp [hrst] at hrel
  · exact .inl h
  · exact .inr h

/-- While `rst` is asserted a read of the window returns 0. -/
theorem hostReadInReset_inside {off : Int} (h0 : 0 ≤ off) (h128 : off < 128) (s : State) :
    hostReadInReset off s = { s with readData := 0 } := by
  rw [hostReadInReset, windowOffset, if_pos ⟨h0, h128⟩]

theorem hostReadInReset_outside {off : Int} (h : off < 0 ∨ 128 ≤ off) (s : State) : hostReadInReset off s = s := by
  rw [hostReadInReset, windowOffset_outside h]

/-- Every other input is ignored. -/
theorem step_ignored_in_reset {s : State} (hrst : s.rst = true) (hreset : ¬ ResetNext s)
    (hread : ∀ off n, s.inputs.head? = some (.hostRead off n) → off < 0 ∨ 128 ≤ off) :
    step s = .next (entryTaken s) := by
  have hrst' : (entryTaken s).rst = true := hrst
  rcases step_in_reset hrst with h | ⟨i, hin, h⟩
  · exact h
  · rw [h]
    cases i with
    | hostRead off n => rw [inputStep, if_pos hrst', hostReadInReset_outside (hread off n hin)]
    | hostWrite off n v => rw [inputStep, if_pos hrst']
    | engine => rfl
    | evtPwm => rw [inputStep, if_pos hrst']
    | evtTm8 => rw [inputStep, if_pos hrst']
    | rstAssert => exact absurd (.inl hin) hreset
    | rstRelease => exact absurd (.inr hin) hreset

/-- Settles O60: both edges of `rst` are `blockReset`, and between them only a read of the window has an effect. -/
theorem resetGivesEveryRegisterItsResetValue : Obligations.ResetGivesEveryRegisterItsResetValue := by
  refine ⟨fun s hin => ?_, fun s hrst hreset => ⟨fun off n hin h0 h128 => ?_, fun hread => ?_⟩, fun s hrst hin => ?_⟩
  · exact ⟨_, step_of_head hin (by simp), fun r => readReg_blockReset r true _, rfl, rfl, rfl, rfl, rfl, rfl, rfl, rfl⟩
  · have hrst' : (entryTaken s).rst = true := hrst
    rw [step_of_head hin (by simp), inputStep, if_pos hrst', hostReadInReset_inside h0 h128]
  · exact step_ignored_in_reset hrst hreset hread
  · have hrst' : (entryTaken s).rst = true := hrst
    refine ⟨blockReset false (entryTaken s), ?_, fun r => readReg_blockReset r false _, rfl, rfl, rfl⟩
    rw [step_of_head hin (by simp), inputStep, if_pos hrst']

end Sys2Proof.Machine
end
